-- ==== Sys2Proof/Word.lean ====
section
/-! DEFINITION. The word type of the block: every value is a 32-bit unsigned word unless it is named
a bit or a state (spec/00_scope.md R13). -/

namespace Sys2Proof

/-- A 32-bit unsigned word; arithmetic on it wraps modulo 2^32 (R7, R13). -/
abbrev Word := BitVec 32

/-- The 10-bit cycle-selector word `CS` (spec/30_encoding.md R77). -/
abbrev Selector := BitVec 10

end Sys2Proof
end

