-- ==== Sys2Proof/Machine/Ports.lean ====
section
/-! DEFINITION. The input and output ports of the block as plain data (spec/10_state.md R35, R42). -/

namespace Sys2Proof.Machine

/-- The four latches of the CSR bank (spec/10_state.md R29). -/
inductive Latch where
  | mepc | mcause | mtval | mstatus
  deriving DecidableEq, Repr

/-- The data inputs of one cycle. They are operands and select nothing (spec/30_encoding.md R77). -/
structure Operands where
  /-- `req_exc_epc_i` -/
  epc : Word
  /-- `req_exc_cause_i` -/
  cause : Word
  /-- `req_exc_tval_i` -/
  tval : Word
  /-- `mtvec_i` -/
  mtvec : Word
  /-- `ext_csr_wdata_i` -/
  wdata : Word
  deriving DecidableEq, Repr, Inhabited

/-- The input vector of one cycle (R35); `clk` is the step itself (R41). -/
structure Inputs where
  /-- `rst_i` -/
  rst : Bool
  /-- `begin_trap_i` -/
  beginTrap : Bool
  /-- `begin_trap_return_i` -/
  beginTrapReturn : Bool
  /-- `req_exc_i` -/
  reqExc : Bool
  /-- `req_ret_i` -/
  reqRet : Bool
  /-- `ext_csr_we_i` -/
  extWe : Bool
  /-- `ext_csr_sel_i` -/
  extSel : BitVec 2
  /-- The five data inputs. -/
  data : Operands
  deriving DecidableEq, Repr, Inhabited

/-- The eight output ports (R42). -/
structure Outputs where
  /-- `flush_o` -/
  flush : Bool
  /-- `set_pc_o` -/
  setPc : Bool
  /-- `pc_to_set_o` -/
  pcToSet : Word
  /-- `return_to_pipeline_mode_o` -/
  rtpm : Bool
  /-- `mepc_o` -/
  mepc : Word
  /-- `mcause_o` -/
  mcause : Word
  /-- `mtval_o` -/
  mtval : Word
  /-- `mstatus_o` -/
  mstatus : Word
  deriving DecidableEq, Repr

end Sys2Proof.Machine
end

