-- ==== Sys2Proof/Syntax.lean ====
section
/-! DEFINITION. The thirteen operations of spec/opcode_table.json, with the operands each one reads
(spec/30_encoding.md R77 to R82). One clock cycle runs several of them (R78): see Decode.lean. -/

namespace Sys2Proof

/-- One operation of the block, one constructor per row of spec/opcode_table.json. The arguments are
the data inputs that the row's operation reads in its cycle; everything else it reads is a register. -/
inductive Instr where
  /-- RESET (R170): every register takes its reset value. -/
  | reset
  /-- REQ_EXC (R90): `requestException(returnAddr, causeCode, trapValue)`. -/
  | reqExc (epc cause tval : Word)
  /-- REQ_RET (R93): `requestReturn()`. -/
  | reqRet
  /-- EV_TRAP (R121): the trap-entry trigger. -/
  | evTrap
  /-- EV_TRAP_RETURN (R122): the trap-return trigger. -/
  | evTrapReturn
  /-- EV_IDLE (R127): the branch of `Idle`. -/
  | evIdle
  /-- EV_SET_CSR_JUMP (R130): the branch of `SetCSRJump`, which reads `mtvec_i`. -/
  | evSetCsrJump (mtvec : Word)
  /-- EV_RETURN_FROM_TRAP (R133): the branch of `ReturnFromTrap`. -/
  | evReturnFromTrap
  /-- EV_SET_PC (R135): the branch of `SetPc`. -/
  | evSetPc
  /-- EXT_WR_MEPC (R96). -/
  | extWrMepc (wdata : Word)
  /-- EXT_WR_MCAUSE (R97). -/
  | extWrMcause (wdata : Word)
  /-- EXT_WR_MTVAL (R98). -/
  | extWrMtval (wdata : Word)
  /-- EXT_WR_MSTATUS (R100). -/
  | extWrMstatus (wdata : Word)
  deriving DecidableEq, Repr

end Sys2Proof
end

