-- ==== Sys2Proof/WellFormed.lean ====
section
/-! DEFINITION. Which lists of operations one cycle can run (spec/30_encoding.md R78, R80), and which
numbers are cycle-selector words (R77, R84). A single operation has no ill-formed operand: every
32-bit value is accepted (spec/40_requests.md R90, spec/10_state.md R36, R40). -/

namespace Sys2Proof

/-- The four operation groups of R78. -/
inductive Group where
  | request | evaluate | external | reset
  deriving DecidableEq, Repr

/-- The group of each operation (R78). -/
def Instr.group : Instr → Group
  | .reset => .reset
  | .reqExc _ _ _ => .request
  | .reqRet => .request
  | .evTrap => .evaluate
  | .evTrapReturn => .evaluate
  | .evIdle => .evaluate
  | .evSetCsrJump _ => .evaluate
  | .evReturnFromTrap => .evaluate
  | .evSetPc => .evaluate
  | .extWrMepc _ => .external
  | .extWrMcause _ => .external
  | .extWrMtval _ => .external
  | .extWrMstatus _ => .external

/-- R78, R80: the operations of one cycle, in phase order, are RESET alone, or at most one request,
then exactly one evaluate row, then at most one external write. -/
def wfCycle (ops : List Instr) : Bool :=
  match ops.map Instr.group with
  | [.reset] => true
  | [.evaluate] => true
  | [.request, .evaluate] => true
  | [.evaluate, .external] => true
  | [.request, .evaluate, .external] => true
  | _ => false

/-- R77, R84: the cycle-selector words are exactly the numbers of ten bits. -/
def wfBits (w : Nat) : Bool := decide (w < 1024)

end Sys2Proof
end

