-- ==== Sys2Proof/Decode.lean ====
section
/-! DEFINITION. The cycle-selector word and the operations it selects (spec/30_encoding.md R77 to R84),
and after the decoder the encoder of the same table. -/

namespace Sys2Proof

/-- The encoding of one cycle: its `CS` word and its data operands (R77, R88). -/
structure CycleWord where
  /-- The 10-bit cycle-selector word. -/
  cs : Selector
  /-- The data operands. -/
  data : Machine.Operands
  deriving DecidableEq, Repr

/-- Operands that are all zero: every input a cycle does not name is 0 (R88). -/
def zeroOperands : Machine.Operands := ⟨0#32, 0#32, 0#32, 0#32, 0#32⟩

/-- Packs the control inputs and the 2-bit state into `CS`, field by field as R77 lays them out. -/
def packSelector (st : BitVec 2) (btr bt rr re we : Bool) (sel : BitVec 2) (rst : Bool) : Selector :=
  st.zeroExtend 10
    ||| ((BitVec.ofBool btr).zeroExtend 10 <<< 2)
    ||| ((BitVec.ofBool bt).zeroExtend 10 <<< 3)
    ||| ((BitVec.ofBool rr).zeroExtend 10 <<< 4)
    ||| ((BitVec.ofBool re).zeroExtend 10 <<< 5)
    ||| ((BitVec.ofBool we).zeroExtend 10 <<< 6)
    ||| (sel.zeroExtend 10 <<< 7)
    ||| ((BitVec.ofBool rst).zeroExtend 10 <<< 9)

/-- The `CS` word of a cycle: its inputs and the current state's encoding (R77). -/
def selectorOf (i : Machine.Inputs) (st : BitVec 2) : Selector :=
  packSelector st i.beginTrapReturn i.beginTrap i.reqRet i.reqExc i.extWe i.extSel i.rst

/-- The input vector that a cycle's encoding stands for; the `st` field is not an input (R77). -/
def inputsOf (w : CycleWord) : Machine.Inputs :=
  { rst := w.cs.getLsbD 9
    beginTrap := w.cs.getLsbD 3
    beginTrapReturn := w.cs.getLsbD 2
    reqExc := w.cs.getLsbD 5
    reqRet := w.cs.getLsbD 4
    extWe := w.cs.getLsbD 6
    extSel := w.cs.extractLsb' 7 2
    data := w.data }

/-- The `st` field of `CS`, bits 1:0 (R77). -/
def stateField (cs : Selector) : BitVec 2 := cs.extractLsb' 0 2

/-- One row of an operation group's table: its match, its mask and the operation it selects. -/
structure Row where
  /-- The row's "match" value. -/
  pattern : Selector
  /-- The row's "mask" value. -/
  mask : Selector
  /-- The operation, from the data operands. -/
  op : Machine.Operands → Instr

/-- A row matches `CS` when the masked bits equal its match value (R79 to R82). -/
def Row.hits (r : Row) (cs : Selector) : Bool := cs &&& r.mask == r.pattern

/-- R82. -/
def resetRows : List Row := [⟨0x200#10, 0x200#10, fun _ => .reset⟩]

/-- R79. -/
def requestRows : List Row :=
  [⟨0x020#10, 0x220#10, fun d => .reqExc d.epc d.cause d.tval⟩,
   ⟨0x010#10, 0x230#10, fun _ => .reqRet⟩]

/-- R80. -/
def evaluateRows : List Row :=
  [⟨0x008#10, 0x208#10, fun _ => .evTrap⟩,
   ⟨0x004#10, 0x20C#10, fun _ => .evTrapReturn⟩,
   ⟨0x000#10, 0x20F#10, fun _ => .evIdle⟩,
   ⟨0x001#10, 0x20F#10, fun d => .evSetCsrJump d.mtvec⟩,
   ⟨0x002#10, 0x20F#10, fun _ => .evReturnFromTrap⟩,
   ⟨0x003#10, 0x20F#10, fun _ => .evSetPc⟩]

/-- R81. -/
def externalRows : List Row :=
  [⟨0x040#10, 0x3C0#10, fun d => .extWrMepc d.wdata⟩,
   ⟨0x0C0#10, 0x3C0#10, fun d => .extWrMcause d.wdata⟩,
   ⟨0x140#10, 0x3C0#10, fun d => .extWrMtval d.wdata⟩,
   ⟨0x1C0#10, 0x3C0#10, fun d => .extWrMstatus d.wdata⟩]

/-- The operations a group's rows select: at most one, because no two rows of a group overlap. -/
def selectRow (rows : List Row) (w : CycleWord) : List Instr :=
  match rows.find? fun r => r.hits w.cs with
  | some r => [r.op w.data]
  | none => []

/-- The operations of a cycle in phase order (R78): RESET alone, or the matching request, evaluate and
external rows. Total: no value of `CS` is illegal (R84). -/
def decode (w : CycleWord) : List Instr :=
  match selectRow resetRows w with
  | [] => selectRow requestRows w ++ selectRow evaluateRows w ++ selectRow externalRows w
  | ops => ops

/-- Why a number is refused as a cycle's encoding. -/
inductive DecodeError where
  /-- A bit above bit 9 is set, and `CS` has ten bits (R77). Safe: no hardware input is shut out. -/
  | beyondTenBits
  deriving DecidableEq, Repr

/-- What the decoder makes of a number. -/
inductive Decoded where
  | ops (l : List Instr)
  | rejected (why : DecodeError)
  deriving DecidableEq, Repr

/-- Decodes a number as a cycle-selector word with all data operands 0. -/
def decodeBits (w : Nat) : Decoded :=
  match wfBits w with
  | true => .ops (decode ⟨BitVec.ofNat 10 w, zeroOperands⟩)
  | false => .rejected .beyondTenBits

/-- The one operation of a cycle that the opcode table names it after: its external write, else its
request, else its evaluate row or RESET. A cycle runs all of its operations, not this one only (log
entry 3). -/
def principal (ops : List Instr) : Option Instr :=
  match ops.find? fun i => i.group == .external with
  | some i => some i
  | none =>
    match ops.find? fun i => i.group == .request with
    | some i => some i
    | none => ops.head?

/-- The host's question, in the opcode table's numbering: the operation that names the cycle whose
`CS` word is `w`. Bits above `nbits` and all data operands are 0. -/
def decodeTableWord (nbits w : Nat) : Option Instr :=
  match decodeBits (w % 2 ^ nbits) with
  | .ops l => principal l
  | .rejected _ => none

/-- A cycle that asserts the given `CS` bits and drives no data. -/
def bareCycle (cs : Selector) : CycleWord := ⟨cs, zeroOperands⟩

/-- Encodes one operation as the cycle that asserts no more than the operation needs: its row's match
value and its own operands (R79 to R82). -/
def encode : Instr → CycleWord
  | .reset => bareCycle 0x200#10
  | .reqExc epc cause tval => ⟨0x020#10, { zeroOperands with epc := epc, cause := cause, tval := tval }⟩
  | .reqRet => bareCycle 0x010#10
  | .evTrap => bareCycle 0x008#10
  | .evTrapReturn => bareCycle 0x004#10
  | .evIdle => bareCycle 0x000#10
  | .evSetCsrJump mtvec => ⟨0x001#10, { zeroOperands with mtvec := mtvec }⟩
  | .evReturnFromTrap => bareCycle 0x002#10
  | .evSetPc => bareCycle 0x003#10
  | .extWrMepc wdata => ⟨0x040#10, { zeroOperands with wdata := wdata }⟩
  | .extWrMcause wdata => ⟨0x0C0#10, { zeroOperands with wdata := wdata }⟩
  | .extWrMtval wdata => ⟨0x140#10, { zeroOperands with wdata := wdata }⟩
  | .extWrMstatus wdata => ⟨0x1C0#10, { zeroOperands with wdata := wdata }⟩

/-- The cycle that asserts what either of two cycles asserts. -/
def CycleWord.join (a b : CycleWord) : CycleWord :=
  ⟨a.cs ||| b.cs,
   ⟨a.data.epc ||| b.data.epc, a.data.cause ||| b.data.cause, a.data.tval ||| b.data.tval,
    a.data.mtvec ||| b.data.mtvec, a.data.wdata ||| b.data.wdata⟩⟩

/-- Encodes the operations of a whole cycle: the inputs of all of them together. -/
def encodeCycle (ops : List Instr) : CycleWord :=
  ops.foldr (fun i w => (encode i).join w) (bareCycle 0x000#10)

end Sys2Proof
end

