-- ==== Sys2Proof/Config.lean ====
section
/-! DEFINITION. What is fixed from outside the block. Every parameter of the block itself has one
value (spec/00_scope.md R7) and stands where it is used, so the only constant here is the free input
vector of a cycle that the script of State does not fix (R8, R11). -/

namespace Sys2Proof

/-- The input vector the pipeline drives in the cycle of a given number once the script is empty.
"No value is left to a draw except the free input vector of each cycle (R8)" (R11). It has no body, so
nothing can be proved of its value, and what is proved holds for every environment. Log entry 2. -/
opaque Config.freeInputs : Nat → Machine.Inputs

end Sys2Proof
end

