-- ==== Sys2Proof/Machine/Flags.lean ====
section
/-! DEFINITION. Bit helpers (spec/00_scope.md R16) and the mstatus save and restore computations
(spec/41_datapath.md R111 to R115). -/

namespace Sys2Proof.Machine

/-- `getBit(v, i)` of R16. -/
def getBit (v : Word) (i : Nat) : BitVec 1 := ((v >>> i) &&& 1#32).truncate 1

/-- `setBit(v, i)` of R16. -/
def setBit (v : Word) (i : Nat) : Word := v ||| (1#32 <<< i)

/-- `clearBit(v, i)` of R16. -/
def clearBit (v : Word) (i : Nat) : Word := v &&& ~~~(1#32 <<< i)

/-- `putBit(v, i, b)` of R16. -/
def putBit (v : Word) (i : Nat) (b : BitVec 1) : Word := clearBit v i ||| (b.zeroExtend 32 <<< i)

/-- Position of `mstatus.MIE` (R7, R73). -/
def mieBit : Nat := 3

/-- Position of `mstatus.MPIE` (R7, R73). -/
def mpieBit : Nat := 7

/-- The MIE field of an mstatus word (spec/10_state.md R33). -/
def mie (m : Word) : Bool := m.getLsbD mieBit

/-- The MPIE field of an mstatus word (spec/10_state.md R33). -/
def mpie (m : Word) : Bool := m.getLsbD mpieBit

/-- The push of trap entry, in the steps of R111: MPIE := MIE, then MIE := 0. -/
def push (m : Word) : Word := clearBit (putBit m mpieBit (getBit m mieBit)) mieBit

/-- The pop of trap return, in the steps of R113: MIE := MPIE, then MPIE := 0. -/
def pop (m : Word) : Word := clearBit (putBit m mieBit (getBit m mpieBit)) mpieBit

end Sys2Proof.Machine
end

