-- ==== Sys2Proof/Machine/State.lean ====
section
/-! DEFINITION. The state of the block: the twelve registers of spec/10_state.md R20 in their current
and next values, the fault mark of R44, the intra-cycle write set of spec/42_evaluate.md R140, and the
model's own environment fields (log entry 2). -/

namespace Sys2Proof.Machine

/-- The four values of the `state` register (spec/10_state.md R22). -/
inductive Ctl where
  /-- "no trap activity in flight" -/
  | idle
  /-- "CSR write and redirect pending commit" -/
  | setCSRJump
  /-- "mode-restore pending commit" -/
  | returnFromTrap
  /-- "final redirect-assert cycle of a return sequence" -/
  | setPc
  deriving DecidableEq, Repr

/-- The registers of the block, exactly those of R20. -/
structure Regs where
  /-- `state`, the controller state (R22). -/
  state : Ctl
  /-- `rec_epc`, saved return address of the pending trap record (R23). -/
  recEpc : Word
  /-- `rec_cause`, cause code of the pending trap record (R24). -/
  recCause : Word
  /-- `rec_tval`, trap value of the pending trap record (R25). -/
  recTval : Word
  /-- `flush`, discard in-flight instructions (R27). -/
  flush : Bool
  /-- `set_pc`, force next fetch address (R26). -/
  setPc : Bool
  /-- `pc_to_set`, the redirect target (R26). -/
  pcToSet : Word
  /-- `rtpm`, return to pipeline mode (R28). -/
  rtpm : Bool
  /-- `mepc`, trapped return address (R30). -/
  mepc : Word
  /-- `mcause`, trap cause code (R31). -/
  mcause : Word
  /-- `mtval`, trap-associated value (R32). -/
  mtval : Word
  /-- `mstatus`, global status bits (R33). -/
  mstatus : Word
  deriving DecidableEq, Repr

/-- The reset value of every register (R48; all but `state` by decisions D8 and D9). -/
def Regs.reset : Regs :=
  { state := .idle
    recEpc := 0#32, recCause := 0#32, recTval := 0#32
    flush := false, setPc := false, pcToSet := 0#32, rtpm := false
    mepc := 0#32, mcause := 0#32, mtval := 0#32, mstatus := 0#32 }

/-- The model's one fault (spec/00_scope.md R10). It is the content of State's fault mark (R44); no
step stops with it, because the block goes on (spec/42_evaluate.md R143, R144; log entry 1). -/
inductive Fault where
  /-- Recorded by an external write to a latch the controller writes in the same cycle
  (spec/40_requests.md R99). Unsafe only for a claim that does not assume the mark is none: such a claim
  is shut out by R194 and by `Sys2Proof.Claimable`. -/
  | csrWriteConflict (latch : Latch)
  deriving DecidableEq, Repr

/-- Why a step has no meaning. -/
inductive Refusal where
  /-- Raised by `exec` for an operation that has no meaning yet; no arm raises it now. Safe. -/
  | notModelled (mnemonic : String)
  deriving DecidableEq, Repr

/-- The machine's state. -/
structure State where
  /-- Current values: what the last edge established (R14). -/
  cur : Regs
  /-- Next values: what the coming edge will establish (R14, R47). -/
  nxt : Regs
  /-- The fault mark: none or CsrWriteConflict of a latch (R44). -/
  fault : Option Fault
  /-- The latches the controller has written in this cycle, the set W of R140. -/
  ctrlWrites : List Latch
  /-- The model's own: the input vectors of the coming cycles, oldest first (R8; log entry 2). -/
  script : List Inputs
  /-- The model's own: how many cycles have run, the index of a free input vector (log entry 2). -/
  tick : Nat
  deriving DecidableEq, Repr

/-- The machine right after reset (R48, R170): every register at its reset value, the mark none as at
the start of every run (R44), and no input vector fixed. -/
def State.reset : State :=
  { cur := Regs.reset, nxt := Regs.reset, fault := none, ctrlWrites := [], script := [], tick := 0 }

end Sys2Proof.Machine
end

