-- ==== Sys2Proof/Machine/Operands.lean ====
section
/-! DEFINITION. The fields of the words the block handles: the state encoding (spec/30_encoding.md R65),
the latch select (R83), the cause code (R68 to R72), and the trap-vector address generator
(spec/41_datapath.md R105 to R110). -/

namespace Sys2Proof.Machine

/-- The 2-bit encoding of a state (R65). -/
def encodeCtl : Ctl → BitVec 2
  | .idle => 0b00#2
  | .setCSRJump => 0b01#2
  | .returnFromTrap => 0b10#2
  | .setPc => 0b11#2

/-- The state of a 2-bit encoding; every value is defined (R66). -/
def decodeCtl (b : BitVec 2) : Ctl :=
  match b.getLsbD 1, b.getLsbD 0 with
  | false, false => .idle
  | false, true => .setCSRJump
  | true, false => .returnFromTrap
  | true, true => .setPc

/-- The latch that `ext_csr_sel_i` selects; every value is defined (R83). -/
def selectLatch (sel : BitVec 2) : Latch :=
  match sel.getLsbD 1, sel.getLsbD 0 with
  | false, false => .mepc
  | false, true => .mcause
  | true, false => .mtval
  | true, true => .mstatus

/-- The `ext_csr_sel_i` value of a latch (R83). -/
def latchSelect : Latch → BitVec 2
  | .mepc => 0b00#2
  | .mcause => 0b01#2
  | .mtval => 0b10#2
  | .mstatus => 0b11#2

/-- Bit 31 of a cause code: 1 is an interrupt, 0 an exception (R68, R105). -/
def isInterrupt (c : Word) : Bool := c.getLsbD 31

/-- Bits 30:0 of a cause code, zero-extended (R105). -/
def causeIndex (c : Word) : Word := (c.extractLsb' 0 31).zeroExtend 32

/-- The cause-code encoder, flag in the high bit (R71). -/
def encodeCause (interrupt : Bool) (index : BitVec 31) : Word :=
  ((BitVec.ofBool interrupt).zeroExtend 32 <<< 31) ||| index.zeroExtend 32

/-- The byte offset of the cause's region of the vector table (R106). -/
def regionOffset (c : Word) : Word := bif isInterrupt c then 0x00000000#32 else 0x00000030#32

/-- The table's base: mtvec with its low two bits masked off (R74, R57). -/
def vectorBase (mtvec : Word) : Word := mtvec &&& 0xFFFFFFFC#32

/-- The trap-vector address of R108, applied to every code, defined or not (R110). -/
def vectorAddress (mtvec c : Word) : Word := vectorBase mtvec + regionOffset c + (causeIndex c <<< 2)

/-- The three classes of cause codes (R72). The block treats them alike. -/
inductive CauseClass where
  | defined | reserved | outside
  deriving DecidableEq, Repr

/-- The class of a cause code (R72): reserved interrupts 2, 6, 10; reserved exceptions 10, 14. -/
def causeClass (c : Word) : CauseClass :=
  let n := (causeIndex c).toNat
  match isInterrupt c with
  | true => if n ∈ [2, 6, 10] then .reserved else if n < 12 then .defined else .outside
  | false => if n ∈ [10, 14] then .reserved else if n < 16 then .defined else .outside

/-- The name of an interrupt index (R69); informative only, no rule depends on it (decision D22). -/
def interruptName (n : Nat) : Option String :=
  (["user software interrupt", "supervisor software interrupt", "reserved",
    "machine software interrupt", "user timer interrupt", "supervisor timer interrupt", "reserved",
    "machine timer interrupt", "user external interrupt", "supervisor external interrupt", "reserved",
    "machine external interrupt"])[n]?

/-- The name of an exception index (R70); informative only, no rule depends on it (decision D22). -/
def exceptionName (n : Nat) : Option String :=
  (["instruction address misaligned", "instruction access fault", "illegal instruction", "breakpoint",
    "load address misaligned", "load access fault", "store/AMO address misaligned",
    "store/AMO access fault", "environment call from U-mode", "environment call from S-mode",
    "reserved", "environment call from M-mode", "instruction page fault", "load page fault",
    "reserved", "store/AMO page fault"])[n]?

/-- The name of a cause code in its enumeration, where it has one (R69, R70). -/
def causeName (c : Word) : Option String :=
  bif isInterrupt c then interruptName (causeIndex c).toNat else exceptionName (causeIndex c).toNat

end Sys2Proof.Machine
end

