-- ==== Sys2Proof/Machine/Ops.lean ====
section
/-! DEFINITION. The named operations over the registers: next-value writes, taking a trap and returning
from one, external latch writes, the start of a cycle and the clock edge. -/

namespace Sys2Proof.Machine

/-! Writes to a bank of next values. -/

/-- Writes the pending trap record (spec/40_requests.md R90). -/
def Regs.record (epc cause tval : Word) (n : Regs) : Regs :=
  { n with recEpc := epc, recCause := cause, recTval := tval }

/-- Writes `state`. -/
def Regs.goTo (st : Ctl) (n : Regs) : Regs := { n with state := st }

/-- Writes `flush`. -/
def Regs.putFlush (b : Bool) (n : Regs) : Regs := { n with flush := b }

/-- Writes `set_pc` and `rtpm`, which every row that writes one writes alike (spec/42_evaluate.md R139). -/
def Regs.putRedirect (b : Bool) (n : Regs) : Regs := { n with setPc := b, rtpm := b }

/-- Writes `pc_to_set`. -/
def Regs.putTarget (a : Word) (n : Regs) : Regs := { n with pcToSet := a }

/-- Writes one latch of the bank, all 32 bits of it (spec/20_memory.md R55). -/
def Regs.putLatch (l : Latch) (v : Word) (n : Regs) : Regs :=
  match l with
  | .mepc => { n with mepc := v }
  | .mcause => { n with mcause := v }
  | .mtval => { n with mtval := v }
  | .mstatus => { n with mstatus := v }

/-- The value of one latch, as its read port shows it (spec/10_state.md R43). -/
def Regs.latch (r : Regs) : Latch → Word
  | .mepc => r.mepc
  | .mcause => r.mcause
  | .mtval => r.mtval
  | .mstatus => r.mstatus

/-! Operations over the whole state. Each reads current values and writes next values (R14). -/

/-- Changes the next values and nothing else. -/
def State.write (f : Regs → Regs) (s : State) : State := { s with nxt := f s.nxt }

/-- Records which latches the evaluate row of this cycle writes, the set W of R140. -/
def State.claim (w : List Latch) (s : State) : State := { s with ctrlWrites := w }

/-- Sets the fault mark (spec/40_requests.md R99). -/
def State.markFault (f : Fault) (s : State) : State := { s with fault := some f }

/-- TAKING A TRAP (spec/42_evaluate.md R130, spec/60_exceptions.md R153): `mepc`, `mcause` and `mtval`
take the pending record, `mstatus` is pushed, the redirect goes to the cause's vector with `set_pc` and
`rtpm` asserted and `flush` deasserted, and the controller is idle again. -/
def State.takeTrap (mtvec : Word) (s : State) : State :=
  (s.write fun n =>
    ((((((n.putLatch .mepc s.cur.recEpc).putLatch .mcause s.cur.recCause).putLatch .mtval
      s.cur.recTval).putLatch .mstatus (push s.cur.mstatus)).putTarget
      (vectorAddress mtvec s.cur.recCause)).putRedirect true).putFlush false |>.goTo .idle).claim
    [.mepc, .mcause, .mtval, .mstatus]

/-- RETURNING FROM A TRAP, first cycle (R133): the target is `mepc` as it stands, `mstatus` is popped,
`flush` is deasserted; `set_pc` and `rtpm` hold, and `SetPc` asserts them one cycle later (R136). -/
def State.returnFromTrap (s : State) : State :=
  (s.write fun n =>
    ((n.putTarget s.cur.mepc).putLatch .mstatus (pop s.cur.mstatus)).putFlush false |>.goTo .setPc).claim
    [.mstatus]

/-- A trigger (R121, R122): forces the state and asserts `flush`; the state branch does not run (R125). -/
def State.trigger (st : Ctl) (s : State) : State :=
  (s.write fun n => (n.putFlush true).goTo st).claim []

/-- An external write of a latch (spec/40_requests.md R96 to R100): the fault of R99 if the controller
writes that latch in this cycle, and then the controller's value stays; else the latch takes the value. -/
def State.externalWrite (l : Latch) (v : Word) (s : State) : State :=
  if l ∈ s.ctrlWrites then s.markFault (.csrWriteConflict l) else s.write (Regs.putLatch l v)

/-! The frame of a cycle. -/

/-- The input vector of the coming cycle: the script's first, or a free one (R8, R11; log entry 2). -/
def State.inputs (s : State) : Inputs :=
  match s.script with
  | i :: _ => i
  | [] => Config.freeInputs s.tick

/-- The start of a cycle: every next value is the current value (spec/10_state.md R47), and the
controller has written no latch yet. -/
def State.beginCycle (s : State) : State := { s with nxt := s.cur, ctrlWrites := [] }

/-- The clock edge (spec/40_requests.md R102): every register takes its next value at once, the write
set of the cycle is spent, and the environment moves to the next input vector. -/
def State.clockEdge (s : State) : State :=
  { s with cur := s.nxt, ctrlWrites := [], script := s.script.tail, tick := s.tick + 1 }

/-! What the pipeline sees. -/

/-- The output ports: each is the current value of a register (spec/10_state.md R42). -/
def State.outputs (s : State) : Outputs :=
  { flush := s.cur.flush, setPc := s.cur.setPc, pcToSet := s.cur.pcToSet, rtpm := s.cur.rtpm
    mepc := s.cur.mepc, mcause := s.cur.mcause, mtval := s.cur.mtval, mstatus := s.cur.mstatus }

/-- What is observed after an edge: the eight ports, and the fault mark beside them (spec/42_evaluate.md
R142). -/
abbrev Observation := Outputs × Option Fault

/-- The observation after an edge, of the state that the edge leaves (R142). -/
def State.observe (s : State) : Observation := (s.outputs, s.fault)

end Sys2Proof.Machine
end

