-- ==== Sys2Proof/Machine/Evaluate.lean ====
section
/-! DEFINITION. The evaluate group, phase 2 of a cycle (spec/42_evaluate.md R120 to R139). Every row
records its write set (R139), which the external write of the same cycle is checked against (R99). -/

namespace Sys2Proof.Machine

/-- EV_TRAP (R121): `state <- SetCSRJump`, `flush <- 1`; the redirect outputs hold. -/
def execEvTrap (s : State) : Host.Outcome State Fault Refusal :=
  .next (s.trigger .setCSRJump)

/-- EV_TRAP_RETURN (R122): `state <- ReturnFromTrap`, `flush <- 1`; the redirect outputs hold. -/
def execEvTrapReturn (s : State) : Host.Outcome State Fault Refusal :=
  .next (s.trigger .returnFromTrap)

/-- EV_IDLE (R127): deasserts `rtpm`, `set_pc` and `flush`; `state` and `pc_to_set` are not written. -/
def execEvIdle (s : State) : Host.Outcome State Fault Refusal :=
  .next ((s.write fun n => (n.putRedirect false).putFlush false).claim [])

/-- EV_SET_CSR_JUMP (R130): takes the trap of the pending record. -/
def execEvSetCsrJump (mtvec : Word) (s : State) : Host.Outcome State Fault Refusal :=
  .next (s.takeTrap mtvec)

/-- EV_RETURN_FROM_TRAP (R133): restores `mstatus` and takes `mepc` as the redirect target. -/
def execEvReturnFromTrap (s : State) : Host.Outcome State Fault Refusal :=
  .next s.returnFromTrap

/-- EV_SET_PC (R135): asserts `set_pc` and `rtpm`, deasserts `flush`, and is idle again. -/
def execEvSetPc (s : State) : Host.Outcome State Fault Refusal :=
  .next ((s.write fun n => ((n.putRedirect true).putFlush false).goTo .idle).claim [])

end Sys2Proof.Machine
end

