-- ==== Sys2Proof/Machine/External.lean ====
section
/-! DEFINITION. The external group, phase 3 of a cycle (spec/40_requests.md R96 to R101): the one write
port of the rest of the pipeline into the latch bank. -/

namespace Sys2Proof.Machine

/-- EXT_WR_MEPC (R96, with the fault of R99). No alignment is applied. -/
def execExtWrMepc (wdata : Word) (s : State) : Host.Outcome State Fault Refusal :=
  .next (s.externalWrite .mepc wdata)

/-- EXT_WR_MCAUSE (R97, with the fault of R99). The value is not legalised. -/
def execExtWrMcause (wdata : Word) (s : State) : Host.Outcome State Fault Refusal :=
  .next (s.externalWrite .mcause wdata)

/-- EXT_WR_MTVAL (R98, with the fault of R99). -/
def execExtWrMtval (wdata : Word) (s : State) : Host.Outcome State Fault Refusal :=
  .next (s.externalWrite .mtval wdata)

/-- EXT_WR_MSTATUS (R100, with the fault of R99). All 32 bits are stored as written. -/
def execExtWrMstatus (wdata : Word) (s : State) : Host.Outcome State Fault Refusal :=
  .next (s.externalWrite .mstatus wdata)

end Sys2Proof.Machine
end

