-- ==== Sys2Proof/Machine/Requests.lean ====
section
/-! DEFINITION. The request group, phase 1 of a cycle (spec/40_requests.md R90 to R95). -/

namespace Sys2Proof.Machine

/-- REQ_EXC (R90): writes the pending trap record and `state <- SetCSRJump`. The cause is not validated,
and the evaluate row of the same cycle may overwrite `state` (R91). -/
def execReqExc (epc cause tval : Word) (s : State) : Host.Outcome State Fault Refusal :=
  .next (s.write fun n => (n.record epc cause tval).goTo .setCSRJump)

/-- REQ_RET (R93): `state <- ReturnFromTrap`, which the evaluate row may overwrite (R94). No privilege
and no trap in progress is checked (spec/60_exceptions.md R156). -/
def execReqRet (s : State) : Host.Outcome State Fault Refusal :=
  .next (s.write (Regs.goTo .returnFromTrap))

end Sys2Proof.Machine
end

