-- ==== Sys2Proof/Machine/Reset.lean ====
section
/-! DEFINITION. The reset group: RESET (spec/70_reset_and_hazards.md R170). -/

namespace Sys2Proof.Machine

/-- RESET (R170): every register takes its reset value (R48) whatever else the cycle asserts. The fault
mark stays (R44, conflict C10), and the controller writes no latch of its own. -/
def execReset (s : State) : Host.Outcome State Fault Refusal :=
  .next ((s.write fun _ => Regs.reset).claim [])

end Sys2Proof.Machine
end

