-- ==== Sys2Proof/Machine/Dispatch.lean ====
section
/-! DEFINITION. One arm per operation of spec/opcode_table.json. -/

namespace Sys2Proof.Machine

def exec (i : Instr) (s : State) : Host.Outcome State Fault Refusal :=
  match i with
  | .reset => Sys2Proof.Machine.execReset s
  | .reqExc epc cause tval => Sys2Proof.Machine.execReqExc epc cause tval s
  | .reqRet => Sys2Proof.Machine.execReqRet s
  | .evTrap => Sys2Proof.Machine.execEvTrap s
  | .evTrapReturn => Sys2Proof.Machine.execEvTrapReturn s
  | .evIdle => Sys2Proof.Machine.execEvIdle s
  | .evSetCsrJump mtvec => Sys2Proof.Machine.execEvSetCsrJump mtvec s
  | .evReturnFromTrap => Sys2Proof.Machine.execEvReturnFromTrap s
  | .evSetPc => Sys2Proof.Machine.execEvSetPc s
  | .extWrMepc wdata => Sys2Proof.Machine.execExtWrMepc wdata s
  | .extWrMcause wdata => Sys2Proof.Machine.execExtWrMcause wdata s
  | .extWrMtval wdata => Sys2Proof.Machine.execExtWrMtval wdata s
  | .extWrMstatus wdata => Sys2Proof.Machine.execExtWrMstatus wdata s

end Sys2Proof.Machine
end

