-- ==== Sys2Proof/Machine/Cycle.lean ====
section
/-! DEFINITION. One clock cycle: the operations that `CS` selects, run in phase order, then the clock
edge (spec/00_scope.md R9, spec/30_encoding.md R77, R78); and how a cycle's word is driven. -/

namespace Sys2Proof.Machine

/-- Runs the operations of a cycle one after another, stopping at the first that answers no next state. -/
def runOps : List Instr → State → Host.Outcome State Fault Refusal
  | [], s => .next s
  | i :: is, s =>
    match exec i s with
    | .next t => runOps is t
    | .fault r => .fault r
    | .refused r => .refused r

/-- The encoding of the coming cycle: its `CS` word, with `st` from the current state, and its data
operands (R77). -/
def State.cycleWord (s : State) : CycleWord :=
  ⟨selectorOf s.inputs (encodeCtl s.cur.state), s.inputs.data⟩

/-- The operations of the coming cycle, in phase order (R78). -/
def State.operations (s : State) : List Instr := decode s.cycleWord

/-- One clock cycle (R9): the next values start as the current ones, the operations run, and the edge
makes the next values current. -/
def runCycle (s : State) : Host.Outcome State Fault Refusal :=
  match runOps s.operations s.beginCycle with
  | .next t => .next t.clockEdge
  | .fault r => .fault r
  | .refused r => .refused r

/-- Drives a cycle's word as the very next cycle: its input vector goes to the front of the script, and
the controller is put into the state that its `st` field names. -/
def State.drive (w : CycleWord) (s : State) : State :=
  let st := decodeCtl (stateField w.cs)
  { s with
    cur := s.cur.goTo st
    nxt := s.nxt.goTo st
    script := inputsOf w :: s.script }

/-- Drives the cycle whose `CS` word is the number `w`, bits above `nbits` and all data being 0. A number
that is no `CS` word cannot be driven, and the state is left as it is. -/
def State.driveBits (s : State) (nbits w : Nat) : State :=
  match wfBits (w % 2 ^ nbits) with
  | true => s.drive ⟨BitVec.ofNat 10 (w % 2 ^ nbits), zeroOperands⟩
  | false => s

end Sys2Proof.Machine
end

