-- ==== Sys2Proof/Machine/Step.lean ====
section
/-! DEFINITION. The step of the machine is one clock cycle (spec/00_scope.md R8, R9, R17). -/

namespace Sys2Proof.Machine

/-- One step: one clock cycle, requests, evaluate, external write, edge (R9). -/
def step (s : State) : Host.Outcome State Fault Refusal := runCycle s

/-- A run of a stated number of cycles (spec/70_reset_and_hazards.md R194). -/
def runFor : Nat → State → Host.Outcome State Fault Refusal
  | 0, s => .next s
  | n + 1, s =>
    match step s with
    | .next t => runFor n t
    | .fault r => .fault r
    | .refused r => .refused r

/-- The state whose next step runs the cycle whose `CS` word is `w` (log entry 3). -/
def State.withFetchWord (s : State) (nbits w : Nat) : State := s.driveBits nbits w

end Sys2Proof.Machine
end

