-- ==== Sys2Proof/Machine/Reference.lean ====
section
/-! DEFINITION. The whole-cycle function as spec/42_evaluate.md R140 writes it, in one piece and without
the operation table. Nothing runs it: a statement says that the step agrees with it. -/

namespace Sys2Proof.Machine

/-- Phase 1 of R140. -/
def referenceRequest (i : Inputs) (n : Regs) : Regs :=
  if i.reqExc then
    { n with recEpc := i.data.epc, recCause := i.data.cause, recTval := i.data.tval, state := .setCSRJump }
  else if i.reqRet then { n with state := .returnFromTrap }
  else n

/-- Phase 2 of R140, which reads the current registers `c`: the next values and the write set W. -/
def referenceEvaluate (i : Inputs) (c n : Regs) : Regs × List Latch :=
  if i.beginTrap then ({ n with state := .setCSRJump, flush := true }, [])
  else if i.beginTrapReturn then ({ n with state := .returnFromTrap, flush := true }, [])
  else
    match c.state with
    | .idle => ({ n with rtpm := false, setPc := false, flush := false }, [])
    | .setCSRJump =>
      ({ n with
          mepc := c.recEpc, mcause := c.recCause, mtval := c.recTval, mstatus := push c.mstatus
          pcToSet := vectorAddress i.data.mtvec c.recCause
          setPc := true, rtpm := true, flush := false, state := .idle },
        [.mepc, .mcause, .mtval, .mstatus])
    | .returnFromTrap =>
      ({ n with pcToSet := c.mepc, mstatus := pop c.mstatus, flush := false, state := .setPc }, [.mstatus])
    | .setPc => ({ n with setPc := true, rtpm := true, flush := false, state := .idle }, [])

/-- Phase 3 of R140, on the next values, the write set and the fault mark. -/
def referenceExternal (i : Inputs) (n : Regs) (w : List Latch) (mark : Option Fault) : Regs × Option Fault :=
  if i.extWe then
    let f := selectLatch i.extSel
    if f ∈ w then (n, some (.csrWriteConflict f))
    else
      match f with
      | .mepc => ({ n with mepc := i.data.wdata }, mark)
      | .mcause => ({ n with mcause := i.data.wdata }, mark)
      | .mtval => ({ n with mtval := i.data.wdata }, mark)
      | .mstatus => ({ n with mstatus := i.data.wdata }, mark)
  else (n, mark)

/-- R140: the registers and the fault mark after the edge, from those before it and the inputs. -/
def referenceCycle (i : Inputs) (c : Regs) (mark : Option Fault) : Regs × Option Fault :=
  if i.rst then (Regs.reset, mark)
  else
    let e := referenceEvaluate i c (referenceRequest i c)
    referenceExternal i e.1 e.2 mark

end Sys2Proof.Machine
end

