-- ==== Sys2Proof/Machine/Observe.lean ====
section
/-! DEFINITION. The observation of a run: the output ports after each edge, with the fault mark
(spec/42_evaluate.md R142, decision D24; spec/70_reset_and_hazards.md R194). -/

namespace Sys2Proof.Machine

/-- R142: the observations after each edge of a run of a stated number of cycles, the first edge's first. -/
def observeRun : Nat → State → List Observation
  | 0, _ => []
  | n + 1, s =>
    match step s with
    | .next t => t.observe :: observeRun n t
    | .fault _ => []
    | .refused _ => []

/-- The start of a claim's finite prefix: the state with exactly these input vectors to come (R194). -/
def State.driveInputs (is : List Inputs) (s : State) : State := { s with script := is }

/-- The observation of the run that a start state and a finite list of input vectors fix (R194). -/
def observeInputs (is : List Inputs) (s : State) : List Observation :=
  observeRun is.length (s.driveInputs is)

end Sys2Proof.Machine
end

