-- ==== Sys2Proof/Machine/Script.lean ====
section
/-! DEFINITION. The cycle-script notation of spec/30_encoding.md R88 as abstract data, and the
pseudo-operations of R89. Labels and comments are informative or ignored (R88) and have no counterpart. -/

namespace Sys2Proof.Machine

/-- A register's name in a script, the `reg` of R88: one of R20. -/
inductive RegName where
  | state | recEpc | recCause | recTval | flush | setPc | pcToSet | rtpm | mepc | mcause | mtval | mstatus
  deriving DecidableEq, Repr

/-- One item of a cycle line (R88); a `NOP` line is a line without items. -/
inductive Item where
  | rst
  | bt
  | btr
  | reqExc (epc cause tval : Word)
  | reqRet
  | wr (csr : Latch) (value : Word)
  deriving DecidableEq, Repr

/-- One line of a script (R88): the directives `.mtvec` and `.init`, or one clock cycle. -/
inductive Line where
  | mtvec (value : Word)
  | init (reg : RegName) (value : Word)
  | cycle (items : List Item)
  deriving DecidableEq, Repr

/-- The input vector of a line without items: every input 0, and mtvec held (R88). -/
def quietInputs (mtvec : Word) : Inputs :=
  { rst := false, beginTrap := false, beginTrapReturn := false, reqExc := false, reqRet := false
    extWe := false, extSel := 0#2
    data := { epc := 0#32, cause := 0#32, tval := 0#32, mtvec := mtvec, wdata := 0#32 } }

/-- The inputs an item asserts, on top of the others of its line (R88). -/
def Item.apply (i : Inputs) : Item → Inputs
  | .rst => { i with rst := true }
  | .bt => { i with beginTrap := true }
  | .btr => { i with beginTrapReturn := true }
  | .reqExc epc cause tval =>
    { i with reqExc := true, data := { i.data with epc := epc, cause := cause, tval := tval } }
  | .reqRet => { i with reqRet := true }
  | .wr csr value =>
    { i with extWe := true, extSel := latchSelect csr, data := { i.data with wdata := value } }

/-- The input vector of one cycle line (R88). -/
def lineInputs (mtvec : Word) (items : List Item) : Inputs := items.foldl Item.apply (quietInputs mtvec)

/-- The input vectors of a script's cycle lines, in order; `mtvec` is the value held so far (R88). -/
def scriptInputs (mtvec : Word) : List Line → List Inputs
  | [] => []
  | .mtvec value :: ls => scriptInputs value ls
  | .init _ _ :: ls => scriptInputs mtvec ls
  | .cycle items :: ls => lineInputs mtvec items :: scriptInputs mtvec ls

/-- A register's start value: the low bits of the value, as many as the register has (R20). -/
def Regs.put (r : RegName) (v : Word) (n : Regs) : Regs :=
  match r with
  | .state => { n with state := decodeCtl (v.truncate 2) }
  | .recEpc => { n with recEpc := v }
  | .recCause => { n with recCause := v }
  | .recTval => { n with recTval := v }
  | .flush => { n with flush := v.getLsbD 0 }
  | .setPc => { n with setPc := v.getLsbD 0 }
  | .pcToSet => { n with pcToSet := v }
  | .rtpm => { n with rtpm := v.getLsbD 0 }
  | .mepc => { n with mepc := v }
  | .mcause => { n with mcause := v }
  | .mtval => { n with mtval := v }
  | .mstatus => { n with mstatus := v }

/-- What one line makes of the start values before it: an `.init` sets its register (R88). -/
def Line.startWith (n : Regs) : Line → Regs
  | .init r v => n.put r v
  | .mtvec _ => n
  | .cycle _ => n

/-- The registers before cycle 0: reset values, but for those an `.init` names (R88). -/
def scriptStart (ls : List Line) : Regs := ls.foldl Line.startWith Regs.reset

/-- The state a script starts from: its start values, and its cycle lines as the environment. Where no
`.mtvec` came before a cycle line, `mtvec_i` is 0 as every unnamed input is. -/
def loadScript (ls : List Line) : State :=
  { State.reset with cur := scriptStart ls, nxt := scriptStart ls, script := scriptInputs 0#32 ls }

/-! The pseudo-operations of R89, each the cycle lines it expands to. -/

/-- `EXC e, epc, tval`: request exception index e, 0 ≤ e < 2^31. -/
def pseudoExc (e : BitVec 31) (epc tval : Word) : List Line :=
  [.cycle [.reqExc epc (e.zeroExtend 32) tval]]

/-- `INT i, epc`: request interrupt index i. -/
def pseudoInt (i : BitVec 31) (epc : Word) : List Line :=
  [.cycle [.reqExc epc (0x80000000#32 ||| i.zeroExtend 32) 0#32]]

/-- `TRAP e, epc, tval`: from `Idle`, the full entry. -/
def pseudoTrap (e epc tval : Word) : List Line := [.cycle [.reqExc epc e tval], .cycle []]

/-- `FTRAP c, epc, tval`: entry with `flush`, through the trigger path. -/
def pseudoFtrap (c epc tval : Word) : List Line := [.cycle [.reqExc epc c tval, .bt], .cycle []]

/-- `MRET`: from `Idle`, the full return. -/
def pseudoMret : List Line := [.cycle [.reqRet], .cycle [], .cycle []]

/-- `IDLE n`: n idle cycles. -/
def pseudoIdle (n : Nat) : List Line := List.replicate n (.cycle [])

end Sys2Proof.Machine
end

