-- ==== Sys2Proof/Safety.lean ====
section
/-! DEFINITION. What counts as a safe run, the pipeline's duties (spec/70_reset_and_hazards.md R175), and
the invariant of the controller. -/

namespace Sys2Proof

open Machine

/-- R194, decision D24: a run with the fault mark set satisfies no claim. -/
abbrev Claimable (s : State) : Prop := s.fault = none

/-- R194: a run, a start state and a finite list of input vectors, satisfies a claim about its
observations if the claim is true of them and the fault mark is set neither at the start nor after any
edge. -/
def Satisfies (s : State) (is : List Inputs) (claim : List Observation → Prop) : Prop :=
  Claimable s ∧ (∀ o ∈ observeInputs is s, o.2 = none) ∧ claim (observeInputs is s)

/-- The latches the controller writes in the coming cycle, from the evaluate row its inputs and state
select (R99, spec/42_evaluate.md R139). -/
def controllerWrites (s : State) : List Latch :=
  if s.inputs.rst || s.inputs.beginTrap || s.inputs.beginTrapReturn then []
  else
    match s.cur.state with
    | .idle => []
    | .setCSRJump => [.mepc, .mcause, .mtval, .mstatus]
    | .returnFromTrap => [.mstatus]
    | .setPc => []

/-- The first duty of R175, broken: the coming cycle has an external write to a latch the controller
writes in it (spec/20_memory.md R61). -/
def writeConflict (s : State) : Bool :=
  !s.inputs.rst && s.inputs.extWe && decide (selectLatch s.inputs.extSel ∈ controllerWrites s)

/-- The duty of R175 on causes: a request's cause is a defined code (R72). -/
def definedCauseOnly (s : State) : Bool := !s.inputs.reqExc || causeClass s.inputs.data.cause == .defined

/-- The duty of R175 on requests: only in `Idle`, or with the matching trigger in the same cycle. -/
def requestAccepted (s : State) : Bool :=
  let i := s.inputs
  (!i.reqExc && !i.reqRet)
    || (i.reqExc && (i.beginTrap || (!i.beginTrapReturn && s.cur.state == .idle)))
    || (!i.reqExc && i.reqRet && !i.beginTrap && (i.beginTrapReturn || s.cur.state == .idle))

/-- Between edges of no cycle, every next value is the current value and no latch is claimed
(spec/10_state.md R47). -/
abbrev Settled (s : State) : Prop := s.nxt = s.cur ∧ s.ctrlWrites = []

/-- `set_pc` and `rtpm` are always equal: each row that writes one writes both alike (R139). -/
abbrev RedirectPaired (s : State) : Prop := s.cur.setPc = s.cur.rtpm

/-- `flush` is asserted only while an entry or a return is pending: only the triggers set it, and they
force the state (R121, R122). -/
abbrev FlushOnlyPending (s : State) : Prop :=
  s.cur.flush = true → s.cur.state = .setCSRJump ∨ s.cur.state = .returnFromTrap

/-- The invariant of the controller that every cycle keeps. -/
abbrev ControllerInv (s : State) : Prop := Settled s ∧ RedirectPaired s ∧ FlushOnlyPending s

/-! Shapes of input vectors, for claims about several cycles: which of the six control inputs are
asserted. Data inputs stay free. -/

/-- The control inputs of a cycle, in the order reset, the two triggers, the two requests, the external
write. -/
abbrev Asserts (i : Inputs) (rst bt btr re rr we : Bool) : Prop :=
  i.rst = rst ∧ i.beginTrap = bt ∧ i.beginTrapReturn = btr ∧ i.reqExc = re ∧ i.reqRet = rr ∧ i.extWe = we

/-- A cycle line without items, `NOP` (spec/30_encoding.md R88). -/
abbrev Quiet (i : Inputs) : Prop := Asserts i false false false false false false

/-- Only `req_exc_i`. -/
abbrev OnlyReqExc (i : Inputs) : Prop := Asserts i false false false true false false

/-- Only `req_ret_i`. -/
abbrev OnlyReqRet (i : Inputs) : Prop := Asserts i false false false false true false

/-- Only `begin_trap_i`. -/
abbrev OnlyTrap (i : Inputs) : Prop := Asserts i false true false false false false

/-- Only `begin_trap_return_i`. -/
abbrev OnlyTrapReturn (i : Inputs) : Prop := Asserts i false false true false false false

/-- `req_exc_i` and `begin_trap_i` together: an entry through the trigger with its record. -/
abbrev ReqExcWithTrap (i : Inputs) : Prop := Asserts i false true false true false false

/-! What a cycle leaves unchanged, between the registers before and after it. -/

/-- The pending trap record is unchanged. -/
abbrev RecordKept (a b : Regs) : Prop :=
  b.recEpc = a.recEpc ∧ b.recCause = a.recCause ∧ b.recTval = a.recTval

/-- The four latches are unchanged. -/
abbrev LatchesKept (a b : Regs) : Prop :=
  b.mepc = a.mepc ∧ b.mcause = a.mcause ∧ b.mtval = a.mtval ∧ b.mstatus = a.mstatus

/-- The redirect outputs are unchanged. -/
abbrev RedirectKept (a b : Regs) : Prop :=
  b.setPc = a.setPc ∧ b.rtpm = a.rtpm ∧ b.pcToSet = a.pcToSet

/-- The three flag outputs are deasserted. -/
abbrev FlagsDeasserted (r : Regs) : Prop := r.flush = false ∧ r.setPc = false ∧ r.rtpm = false

end Sys2Proof
end

