-- ==== Sys2Proof/Certificates/Slice0/Obligations.lean ====
section
/-! DEFINITION. The statements for the provers. Each one's docstring names the rules of spec/ that it
formalises. The words of `CS` in them are the spec's own encoding (R77 to R82, decision D21), which each
operation's rule repeats. A statement about a latch in a cycle with a write conflict says what the hardware keeps
(R99); a claim about a run assumes `Claimable` (R194). -/

open Sys2Proof Sys2Proof.Machine

/-! ## The operations, one by one -/

/-- R90: REQ_EXC writes the pending trap record and `state <- SetCSRJump` and no flag; the record always
reaches the edge, with any 32-bit values. R91 ("derived" by R9 there): the controller is in `SetCSRJump`
after the edge exactly with the entry trigger, or from `Idle` without the return trigger. -/
def Obligations.ReqExcWritesRecordAndState : Prop :=
  (∀ (s : State) (epc cause tval : Word),
    exec (.reqExc epc cause tval) s
      = .next { s with
          nxt := { s.nxt with recEpc := epc, recCause := cause, recTval := tval, state := .setCSRJump } })
  ∧ (∀ w : CycleWord,
      .reqExc w.data.epc w.data.cause w.data.tval ∈ decode w ↔ w.cs &&& 0x220#10 = 0x020#10)
  ∧ (∀ s : State, s.inputs.rst = false → s.inputs.reqExc = true →
      ∃ t, step s = .next t
        ∧ t.cur.recEpc = s.inputs.data.epc ∧ t.cur.recCause = s.inputs.data.cause
        ∧ t.cur.recTval = s.inputs.data.tval
        ∧ (t.cur.state = .setCSRJump ↔
            s.inputs.beginTrap = true ∨ (s.inputs.beginTrapReturn = false ∧ s.cur.state = .idle))
        ∧ (s.inputs.beginTrap = false → s.inputs.beginTrapReturn = false → s.cur.state = .idle →
            FlagsDeasserted t.cur))

/-- R93: REQ_RET writes `state <- ReturnFromTrap` and nothing else, and checks nothing. R94 ("derived"
by R9 there): the controller is in `ReturnFromTrap` after the edge exactly from `Idle` or with the return
trigger, and never with the entry trigger. From `Idle` without a trigger the only other writes are those of EV_IDLE. -/
def Obligations.ReqRetForcesReturn : Prop :=
  (∀ s : State, exec .reqRet s = .next { s with nxt := { s.nxt with state := .returnFromTrap } })
  ∧ (∀ w : CycleWord, .reqRet ∈ decode w ↔ w.cs &&& 0x230#10 = 0x010#10)
  ∧ (∀ s : State, s.inputs.rst = false → s.inputs.reqExc = false → s.inputs.reqRet = true →
      ∃ t, step s = .next t ∧ RecordKept s.cur t.cur
        ∧ (t.cur.state = .returnFromTrap ↔ s.inputs.beginTrap = false
            ∧ (s.inputs.beginTrapReturn = true ∨ s.cur.state = .idle))
        ∧ (s.inputs.beginTrap = false → s.inputs.beginTrapReturn = false → s.cur.state = .idle →
            FlagsDeasserted t.cur ∧ t.cur.pcToSet = s.cur.pcToSet
              ∧ (s.inputs.extWe = false → LatchesKept s.cur t.cur)))

/-- With both requests REQ_EXC alone runs, so `req_ret_i` makes no difference then ("When `req_exc_i = 1`
and `req_ret_i = 1` in the same cycle, REQ_EXC runs and REQ_RET does not", R92, the spec's decision D5);
with neither, no request runs and the record is kept (R95). -/
def Obligations.ReqExcBeatsReqRet : Prop :=
  (∀ w : CycleWord, (inputsOf w).rst = false → (inputsOf w).reqExc = true →
    .reqExc w.data.epc w.data.cause w.data.tval ∈ decode w ∧ .reqRet ∉ decode w)
  ∧ (∀ (s : State) (i : Inputs) (is : List Inputs), i.reqExc = true →
      step { s with script := { i with reqRet := true } :: is }
        = step { s with script := { i with reqRet := false } :: is })
  ∧ (∀ s : State, s.inputs.rst = false → s.inputs.reqExc = false → s.inputs.reqRet = false →
      (∀ op ∈ s.operations, op.group ≠ .request) ∧ ∃ t, step s = .next t ∧ RecordKept s.cur t.cur)

/-- R121, R123, R126: EV_TRAP runs in every state, with either value of the return trigger and any
`mstatus`; it writes `state` and `flush` only, and the state branch of the cycle does not run. The record
is the one a REQ_EXC of the same cycle writes, or else the one held before; the EV_SET_CSR_JUMP of the next
cycle uses it as the edge leaves it. -/
def Obligations.TrapTriggerForcesEntry : Prop :=
  (∀ s : State,
    exec .evTrap s
      = .next { s with nxt := { s.nxt with state := .setCSRJump, flush := true }, ctrlWrites := [] })
  ∧ (∀ w : CycleWord, .evTrap ∈ decode w ↔ w.cs &&& 0x208#10 = 0x008#10)
  ∧ (∀ s : State, s.inputs.rst = false → s.inputs.beginTrap = true →
      (∀ op ∈ s.operations, op.group = .evaluate → op = .evTrap)
      ∧ ∃ t, step s = .next t ∧ t.cur.state = .setCSRJump ∧ t.cur.flush = true
        ∧ RedirectKept s.cur t.cur ∧ t.fault = s.fault
        ∧ (s.inputs.reqExc = false → RecordKept s.cur t.cur)
        ∧ (s.inputs.reqExc = true → t.cur.recEpc = s.inputs.data.epc
            ∧ t.cur.recCause = s.inputs.data.cause ∧ t.cur.recTval = s.inputs.data.tval)
        ∧ (s.inputs.extWe = false → LatchesKept s.cur t.cur)
        ∧ (t.inputs.rst = false → t.inputs.beginTrap = false → t.inputs.beginTrapReturn = false →
            ∃ u, step t = .next u ∧ u.cur.mepc = t.cur.recEpc ∧ u.cur.mcause = t.cur.recCause
              ∧ u.cur.mtval = t.cur.recTval))

/-- R122: EV_TRAP_RETURN runs in every state when only the return trigger is asserted; it writes `state`
and `flush` only, and a REQ_EXC of the same cycle loses its state write. -/
def Obligations.ReturnTriggerForcesReturn : Prop :=
  (∀ s : State,
    exec .evTrapReturn s
      = .next { s with nxt := { s.nxt with state := .returnFromTrap, flush := true }, ctrlWrites := [] })
  ∧ (∀ w : CycleWord, .evTrapReturn ∈ decode w ↔ w.cs &&& 0x20C#10 = 0x004#10)
  ∧ (∀ s : State, s.inputs.rst = false → s.inputs.beginTrap = false →
      s.inputs.beginTrapReturn = true →
      (∀ op ∈ s.operations, op.group = .evaluate → op = .evTrapReturn)
      ∧ ∃ t, step s = .next t ∧ t.cur.state = .returnFromTrap ∧ t.cur.flush = true
        ∧ RedirectKept s.cur t.cur ∧ t.fault = s.fault
        ∧ (s.inputs.reqExc = false → RecordKept s.cur t.cur)
        ∧ (s.inputs.extWe = false → LatchesKept s.cur t.cur))

/-- R127: EV_IDLE deasserts the three flags, keeps `pc_to_set`, writes no latch, and leaves `state` to a
request of the same cycle. -/
def Obligations.IdleDeassertsFlags : Prop :=
  (∀ s : State,
    exec .evIdle s
      = .next { s with
          nxt := { s.nxt with rtpm := false, setPc := false, flush := false }, ctrlWrites := [] })
  ∧ (∀ w : CycleWord, .evIdle ∈ decode w ↔ w.cs &&& 0x20F#10 = 0x000#10)
  ∧ (∀ s : State, s.inputs.rst = false → s.inputs.beginTrap = false →
      s.inputs.beginTrapReturn = false → s.cur.state = .idle →
      ∃ t, step s = .next t ∧ FlagsDeasserted t.cur ∧ t.cur.pcToSet = s.cur.pcToSet
        ∧ t.fault = s.fault
        ∧ (s.inputs.reqExc = false → s.inputs.reqRet = false → t.cur.state = .idle)
        ∧ (s.inputs.extWe = false → LatchesKept s.cur t.cur)
        ∧ (s.inputs.extWe = true → t.cur.latch (selectLatch s.inputs.extSel) = s.inputs.data.wdata))

/-- R130: EV_SET_CSR_JUMP commits the record into the latches, pushes `mstatus`, redirects to the
vector of `rec_cause` and is idle again, whatever the requests and the external port of its cycle do. R130
leaves the conflict to R99: that the controller's values stay then and a mark is set in the next state is
R99 (the spec's decision D7), R140 and R143 ("derived" there) and log entry 1 (DEDUCED). -/
def Obligations.SetCsrJumpTakesTheTrap : Prop :=
  (∀ (s : State) (mtvec : Word),
    exec (.evSetCsrJump mtvec) s
      = .next { s with
          nxt := { s.nxt with
            mepc := s.cur.recEpc, mcause := s.cur.recCause, mtval := s.cur.recTval
            mstatus := push s.cur.mstatus
            pcToSet := vectorAddress mtvec s.cur.recCause
            setPc := true, rtpm := true, flush := false, state := .idle }
          ctrlWrites := [.mepc, .mcause, .mtval, .mstatus] })
  ∧ (∀ w : CycleWord, .evSetCsrJump w.data.mtvec ∈ decode w ↔ w.cs &&& 0x20F#10 = 0x001#10)
  ∧ (∀ s : State, s.inputs.rst = false → s.inputs.beginTrap = false →
      s.inputs.beginTrapReturn = false → s.cur.state = .setCSRJump →
      ∃ t, step s = .next t
        ∧ t.cur.mepc = s.cur.recEpc ∧ t.cur.mcause = s.cur.recCause ∧ t.cur.mtval = s.cur.recTval
        ∧ t.cur.mstatus = push s.cur.mstatus
        ∧ t.cur.pcToSet = vectorAddress s.inputs.data.mtvec s.cur.recCause
        ∧ t.cur.setPc = true ∧ t.cur.rtpm = true ∧ t.cur.flush = false ∧ t.cur.state = .idle
        ∧ (s.inputs.reqExc = false → RecordKept s.cur t.cur)
        ∧ t.fault =
            if s.inputs.extWe then some (.csrWriteConflict (selectLatch s.inputs.extSel)) else s.fault)

/-- R133: EV_RETURN_FROM_TRAP redirects to the current `mepc` as it stands, pops `mstatus`, and goes on
to `SetPc`; `set_pc` and `rtpm` hold. R133 leaves the conflict to R99: that it is a mark in a next
state is R99 (the spec's decision D7), R140 and R143 ("derived" there) and log entry 1 (DEDUCED). -/
def Obligations.ReturnFromTrapRestoresStatus : Prop :=
  (∀ s : State,
    exec .evReturnFromTrap s
      = .next { s with
          nxt := { s.nxt with
            pcToSet := s.cur.mepc, mstatus := pop s.cur.mstatus, flush := false, state := .setPc }
          ctrlWrites := [.mstatus] })
  ∧ (∀ w : CycleWord, .evReturnFromTrap ∈ decode w ↔ w.cs &&& 0x20F#10 = 0x002#10)
  ∧ (∀ s : State, s.inputs.rst = false → s.inputs.beginTrap = false →
      s.inputs.beginTrapReturn = false → s.cur.state = .returnFromTrap →
      ∃ t, step s = .next t
        ∧ t.cur.pcToSet = s.cur.mepc ∧ t.cur.mstatus = pop s.cur.mstatus
        ∧ t.cur.flush = false ∧ t.cur.state = .setPc
        ∧ t.cur.setPc = s.cur.setPc ∧ t.cur.rtpm = s.cur.rtpm
        ∧ (s.inputs.reqExc = false → RecordKept s.cur t.cur)
        ∧ (s.inputs.extWe = false → LatchesKept { s.cur with mstatus := pop s.cur.mstatus } t.cur)
        ∧ (s.inputs.extWe = true → selectLatch s.inputs.extSel = .mepc →
            t.cur.mepc = s.inputs.data.wdata ∧ t.fault = s.fault)
        ∧ (s.inputs.extWe = true → selectLatch s.inputs.extSel = .mstatus →
            t.fault = some (.csrWriteConflict .mstatus)))

/-- R135: EV_SET_PC asserts the redirect to the target already held and is idle again. -/
def Obligations.SetPcAssertsTheHeldRedirect : Prop :=
  (∀ s : State,
    exec .evSetPc s
      = .next { s with
          nxt := { s.nxt with setPc := true, rtpm := true, flush := false, state := .idle }
          ctrlWrites := [] })
  ∧ (∀ w : CycleWord, .evSetPc ∈ decode w ↔ w.cs &&& 0x20F#10 = 0x003#10)
  ∧ (∀ s : State, s.inputs.rst = false → s.inputs.beginTrap = false →
      s.inputs.beginTrapReturn = false → s.cur.state = .setPc →
      ∃ t, step s = .next t ∧ t.cur.setPc = true ∧ t.cur.rtpm = true ∧ t.cur.flush = false
        ∧ t.cur.state = .idle ∧ t.cur.pcToSet = s.cur.pcToSet
        ∧ (s.inputs.reqExc = false → RecordKept s.cur t.cur)
        ∧ (s.inputs.extWe = false → LatchesKept s.cur t.cur) ∧ t.fault = s.fault)

/-- The external writes of `mepc`, `mcause` and `mtval`: the fault of R99 in an EV_SET_CSR_JUMP cycle,
else the latch takes the value as it stands, and the redirect of the cycle never sees it. The port is the
spec's decision D7 (R96, R97, R98: "[decision for the port: see 92_eei_decisions.md D7]"). -/
def Obligations.ExternalWritesOfTrapFrame : Prop :=
  (∀ (s : State) (v : Word),
    exec (.extWrMepc v) s
        = .next (if .mepc ∈ s.ctrlWrites then { s with fault := some (.csrWriteConflict .mepc) }
            else { s with nxt := { s.nxt with mepc := v } })
      ∧ exec (.extWrMcause v) s
        = .next (if .mcause ∈ s.ctrlWrites then { s with fault := some (.csrWriteConflict .mcause) }
            else { s with nxt := { s.nxt with mcause := v } })
      ∧ exec (.extWrMtval v) s
        = .next (if .mtval ∈ s.ctrlWrites then { s with fault := some (.csrWriteConflict .mtval) }
            else { s with nxt := { s.nxt with mtval := v } }))
  ∧ (∀ w : CycleWord,
      (.extWrMepc w.data.wdata ∈ decode w ↔ w.cs &&& 0x3C0#10 = 0x040#10)
      ∧ (.extWrMcause w.data.wdata ∈ decode w ↔ w.cs &&& 0x3C0#10 = 0x0C0#10)
      ∧ (.extWrMtval w.data.wdata ∈ decode w ↔ w.cs &&& 0x3C0#10 = 0x140#10))
  ∧ (∀ (s : State) (l : Latch), s.inputs.rst = false → s.inputs.extWe = true →
      selectLatch s.inputs.extSel = l → l ≠ .mstatus →
      ∃ t, step s = .next t ∧
        if s.inputs.beginTrap = false ∧ s.inputs.beginTrapReturn = false ∧ s.cur.state = .setCSRJump then
          t.fault = some (.csrWriteConflict l)
            ∧ t.cur.pcToSet = vectorAddress s.inputs.data.mtvec s.cur.recCause
        else t.cur.latch l = s.inputs.data.wdata ∧ t.fault = s.fault
          ∧ (s.inputs.beginTrap = false → s.inputs.beginTrapReturn = false →
              s.cur.state = .returnFromTrap → t.cur.pcToSet = s.cur.mepc))

/-- The external write of `mstatus` stores all 32 bits, or is the fault of R99 in an EV_SET_CSR_JUMP or
EV_RETURN_FROM_TRAP cycle (R100, whose port is the spec's decision D7). -/
def Obligations.ExternalWriteOfStatus : Prop :=
  (∀ (s : State) (v : Word),
    exec (.extWrMstatus v) s
      = .next (if .mstatus ∈ s.ctrlWrites then { s with fault := some (.csrWriteConflict .mstatus) }
          else { s with nxt := { s.nxt with mstatus := v } }))
  ∧ (∀ w : CycleWord, .extWrMstatus w.data.wdata ∈ decode w ↔ w.cs &&& 0x3C0#10 = 0x1C0#10)
  ∧ (∀ s : State, s.inputs.rst = false → s.inputs.extWe = true →
      selectLatch s.inputs.extSel = .mstatus →
      ∃ t, step s = .next t ∧
        if s.inputs.beginTrap = false ∧ s.inputs.beginTrapReturn = false
            ∧ (s.cur.state = .setCSRJump ∨ s.cur.state = .returnFromTrap) then
          t.fault = some (.csrWriteConflict .mstatus)
        else t.cur.mstatus = s.inputs.data.wdata ∧ t.fault = s.fault)

/-- An external write to a latch the controller writes in the cycle sets the mark, which stays set for the
rest of the run, and the latch keeps the controller's value; any other external write lands. R99 ("the
hardware keeps the controller's value for that latch and drops the external write", the spec's decision
D7; R101 and R104, derived there). -/
def Obligations.WriteConflictMarksTheRun : Prop :=
  (∀ s : State, writeConflict s = true →
    ∃ t, step s = .next t ∧ t.fault = some (.csrWriteConflict (selectLatch s.inputs.extSel))
      ∧ (s.cur.state = .setCSRJump →
          t.cur.mepc = s.cur.recEpc ∧ t.cur.mcause = s.cur.recCause ∧ t.cur.mtval = s.cur.recTval
            ∧ t.cur.mstatus = push s.cur.mstatus)
      ∧ (s.cur.state = .returnFromTrap → t.cur.mstatus = pop s.cur.mstatus)
      ∧ ∀ n u, runFor n t = .next u → u.fault ≠ none)
  ∧ (∀ s : State, writeConflict s = false → s.inputs.rst = false → s.inputs.extWe = true →
      ∃ t, step s = .next t ∧ t.fault = s.fault
        ∧ t.cur.latch (selectLatch s.inputs.extSel) = s.inputs.data.wdata)

/-- RESET puts every register at its reset value from any state and whatever the other inputs are, keeps
the fault mark, and a reset held for several cycles gives the same registers (R170, R82, whose reset input
and values are the spec's decisions D8 and D9; log entry 5). -/
def Obligations.ResetFromAnyState : Prop :=
  (∀ s : State, exec .reset s = .next { s with nxt := Regs.reset, ctrlWrites := [] })
  ∧ (∀ w : CycleWord, w.cs &&& 0x200#10 = 0x200#10 → decode w = [.reset])
  ∧ (∀ w : CycleWord, .reset ∈ decode w ↔ w.cs &&& 0x200#10 = 0x200#10)
  ∧ (∀ s : State, s.inputs.rst = true →
      ∃ t, step s = .next t ∧ t.cur = Regs.reset ∧ t.fault = s.fault
        ∧ (t.inputs.rst = true → ∃ u, step t = .next u ∧ u.cur = t.cur ∧ u.fault = t.fault))

/-- What the reset state holds (R48, all values but `state` by the spec's decisions D8 and D9; log entry 5),
and that a cycle without inputs after a reset is an EV_IDLE cycle that changes no register and drives no
redirect (R171, "derived" there): every output port shows 0 (R42). -/
def Obligations.ResetStateIsQuiet : Prop :=
  State.reset.fault = none
  ∧ State.reset.cur = ⟨.idle, 0#32, 0#32, 0#32, false, false, 0#32, false, 0#32, 0#32, 0#32, 0#32⟩
  ∧ (∀ (s : State) (i j : Inputs) (is : List Inputs), s.script = i :: j :: is → i.rst = true → Quiet j →
      ∃ t u, step s = .next t ∧ step t = .next u ∧ t.cur = State.reset.cur ∧ t.fault = s.fault
        ∧ t.operations = [.evIdle]
        ∧ t.observe = (⟨false, false, 0#32, false, 0#32, 0#32, 0#32, 0#32⟩, s.fault) ∧ u.cur = t.cur)

/-! ## The whole cycle -/

/-- One step is the whole-cycle function of the spec, for every state and input vector (R140, "derived:
from the rules cited"). The fields that are not registers of the block are the model's own: the write set
spent at the edge is log entry 6 (DEDUCED), the script that loses its first vector and the counter that
advances are log entry 2 (DESIGN CHOICE). -/
def Obligations.StepIsTheWholeCycleFunction : Prop :=
  ∀ s : State,
    step s = .next
      { cur := (referenceCycle s.inputs s.cur s.fault).1
        nxt := (referenceCycle s.inputs s.cur s.fault).1
        fault := (referenceCycle s.inputs s.cur s.fault).2
        ctrlWrites := []
        script := s.script.tail
        tick := s.tick + 1 }

/-- R102, R9, R78: a step runs `exec` of the operations that the cycle's word decodes to, in phase order
(R9, R78), starting from next values equal to the current ones (R47), and ends in the clock edge, at which
every register takes its next value at once (R102). That the word of a cycle can be driven at will is log
entry 3 (DESIGN CHOICE). -/
def Obligations.StepRunsTheDecodedOperations : Prop :=
  (∀ (s : State) (a : Instr), decode s.cycleWord = [a] →
    ∃ t, exec a s.beginCycle = .next t ∧ step s = .next t.clockEdge)
  ∧ (∀ (s : State) (a b : Instr), decode s.cycleWord = [a, b] →
    ∃ t u, exec a s.beginCycle = .next t ∧ exec b t = .next u ∧ step s = .next u.clockEdge)
  ∧ (∀ (s : State) (a b c : Instr), decode s.cycleWord = [a, b, c] →
    ∃ t u v, exec a s.beginCycle = .next t ∧ exec b t = .next u ∧ exec c u = .next v
      ∧ step s = .next v.clockEdge)
  ∧ (∀ s : State, s.beginCycle.nxt = s.cur ∧ s.beginCycle.cur = s.cur ∧ s.clockEdge.cur = s.nxt)
  ∧ (∀ (s : State) (w : CycleWord), (s.drive w).cycleWord = w)

/-- R120, R124: in a cycle without reset the evaluate phase runs exactly one row: the entry trigger's if it
is asserted, else the return trigger's, else the branch of the state that the last edge established,
whatever a request of the cycle writes. -/
def Obligations.EvaluateDispatch : Prop :=
  ∀ s : State, s.inputs.rst = false →
    (s.operations.filter fun op => op.group == .evaluate)
      = [if s.inputs.beginTrap then .evTrap
         else if s.inputs.beginTrapReturn then .evTrapReturn
         else
          match s.cur.state with
          | .idle => .evIdle
          | .setCSRJump => .evSetCsrJump s.inputs.data.mtvec
          | .returnFromTrap => .evReturnFromTrap
          | .setPc => .evSetPc]

/-- R137, R144: no evaluate row stops the machine (R137), every state has a successor under every input,
and a run ends only after the number of cycles that a claim fixes (R144). That an external write in a
conflict answers a next state too, with a mark in it, is log entry 1 (DEDUCED, from R143). -/
def Obligations.EveryCycleCompletes : Prop :=
  (∀ (op : Instr) (s : State), ∃ t, exec op s = .next t)
  ∧ (∀ s : State, ∃ t, step s = .next t)
  ∧ (∀ (n : Nat) (s : State), ∃ t, runFor n s = .next t)

/-- The state transition table, for every combination of triggers and requests, and with it whether a
request's state write survives (R141, R91, R94, each "derived" in the spec). -/
def Obligations.StateTransitionTable : Prop :=
  ∀ s : State, s.inputs.rst = false →
    ∃ t, step s = .next t ∧
      t.cur.state =
        if s.inputs.beginTrap then .setCSRJump
        else if s.inputs.beginTrapReturn then .returnFromTrap
        else if s.inputs.reqExc then
          match s.cur.state with
          | .idle => .setCSRJump
          | .setCSRJump => .idle
          | .returnFromTrap => .setPc
          | .setPc => .idle
        else if s.inputs.reqRet then
          match s.cur.state with
          | .idle => .returnFromTrap
          | .setCSRJump => .idle
          | .returnFromTrap => .setPc
          | .setPc => .idle
        else
          match s.cur.state with
          | .idle => .idle
          | .setCSRJump => .idle
          | .returnFromTrap => .setPc
          | .setPc => .idle

/-- The step is a function of the current registers, the fault mark and the cycle's inputs; nothing else
of the state matters to it (R143, "derived: from rule R140"). -/
def Obligations.StepIsTotalAndDetermined : Prop :=
  ∀ s s' : State, s.cur = s'.cur → s.fault = s'.fault → s.inputs = s'.inputs →
    ∃ t t', step s = .next t ∧ step s' = .next t' ∧ t.cur = t'.cur ∧ t.fault = t'.fault

/-- The CSR save and restore multiplexer, latch by latch (R116, "derived: from the rules cited"). -/
def Obligations.LatchMultiplexer : Prop :=
  ∀ s : State, s.inputs.rst = false →
    ∃ t, step s = .next t ∧ ∀ l,
      t.cur.latch l =
        if l ∈ controllerWrites s then
          match l with
          | .mepc => s.cur.recEpc
          | .mcause => s.cur.recCause
          | .mtval => s.cur.recTval
          | .mstatus => if s.cur.state = .setCSRJump then push s.cur.mstatus else pop s.cur.mstatus
        else if s.inputs.extWe = true ∧ selectLatch s.inputs.extSel = l then s.inputs.data.wdata
        else s.cur.latch l

/-- R28, and R26 as far as it says who writes: which cycles change `set_pc`, `rtpm` and `pc_to_set`, and to what. -/
def Obligations.RedirectMultiplexer : Prop :=
  ∀ s : State, s.inputs.rst = false →
    ∃ t, step s = .next t ∧
      (if s.inputs.beginTrap = true ∨ s.inputs.beginTrapReturn = true then RedirectKept s.cur t.cur
       else
        match s.cur.state with
        | .idle => t.cur.setPc = false ∧ t.cur.rtpm = false ∧ t.cur.pcToSet = s.cur.pcToSet
        | .setCSRJump =>
          t.cur.setPc = true ∧ t.cur.rtpm = true
            ∧ t.cur.pcToSet = vectorAddress s.inputs.data.mtvec s.cur.recCause
        | .returnFromTrap =>
          t.cur.setPc = s.cur.setPc ∧ t.cur.rtpm = s.cur.rtpm ∧ t.cur.pcToSet = s.cur.mepc
        | .setPc => t.cur.setPc = true ∧ t.cur.rtpm = true ∧ t.cur.pcToSet = s.cur.pcToSet)

/-- R27 ("derived" there for the requests) and R190: after a cycle, `flush` is asserted exactly when a
trigger was; no request ever asserts it. In a reset cycle it is 0 by the spec's decision D8. -/
def Obligations.FlushExactlyAfterTriggers : Prop :=
  ∀ s : State, ∃ t, step s = .next t ∧
    (t.cur.flush = true ↔
      s.inputs.rst = false ∧ (s.inputs.beginTrap = true ∨ s.inputs.beginTrapReturn = true))

/-- R23, R24, R25, as far as they say who writes: only REQ_EXC writes the pending trap record; otherwise it survives every cycle but a
reset, even after it has been consumed. -/
def Obligations.RecordWrittenByReqExcOnly : Prop :=
  ∀ s : State, s.inputs.rst = false →
    ∃ t, step s = .next t ∧
      (if s.inputs.reqExc then
        t.cur.recEpc = s.inputs.data.epc ∧ t.cur.recCause = s.inputs.data.cause
          ∧ t.cur.recTval = s.inputs.data.tval
       else RecordKept s.cur t.cur)

/-- R36, R38, R101, as far as they say who reads: a data input is read only by the operation it belongs to: two input vectors that
differ elsewhere give the same next state. -/
def Obligations.UnselectedDataIgnored : Prop :=
  ∀ (s : State) (i j : Inputs) (is : List Inputs),
    i.rst = j.rst → i.beginTrap = j.beginTrap → i.beginTrapReturn = j.beginTrapReturn →
    i.reqExc = j.reqExc → i.reqRet = j.reqRet → i.extWe = j.extWe →
    (i.reqExc = true →
      i.data.epc = j.data.epc ∧ i.data.cause = j.data.cause ∧ i.data.tval = j.data.tval) →
    (i.beginTrap = false → i.beginTrapReturn = false → s.cur.state = .setCSRJump →
      i.data.mtvec = j.data.mtvec) →
    (i.extWe = true → i.extSel = j.extSel ∧ i.data.wdata = j.data.wdata) →
    ∃ t, step { s with script := i :: is } = .next t ∧ step { s with script := j :: is } = .next t

/-! ## Invariants and isolation -/

/-- Every step keeps the controller's invariant: next values settled (R47), `set_pc` and `rtpm` equal and
`flush` only while an entry or a return is pending (read off the write sets of R139, "derived" there). -/
def Obligations.StepKeepsControllerInvariant : Prop :=
  ∀ s t : State, ControllerInv s → step s = .next t → ControllerInv t

/-- The reset state meets the invariant (R48). -/
def Obligations.ResetMeetsControllerInvariant : Prop := ControllerInv State.reset

/-- The fault mark is none at reset, only the write conflict of R99 sets it, and nothing clears it in any
number of cycles, a reset among them (R44, the spec's decision D7; conflict C10). -/
def Obligations.FaultMarkIsSticky : Prop :=
  State.reset.fault = none
  ∧ (∀ s t : State, step s = .next t →
      t.fault = if writeConflict s then some (.csrWriteConflict (selectLatch s.inputs.extSel)) else s.fault)
  ∧ (∀ (n : Nat) (s t : State), runFor n s = .next t → s.fault ≠ none →
      t.fault ≠ none)

/-- MIE gates nothing (R46, R148). Two runs of any length that start alike but for `mstatus` agree, after
every number of cycles, in everything but `mstatus`. -/
def Obligations.StatusGatesNothing : Prop :=
  ∀ (n : Nat) (s : State) (m : Word),
    ∃ t t', runFor n s = .next t
      ∧ runFor n { s with cur := { s.cur with mstatus := m } } = .next t'
      ∧ { t'.cur with mstatus := t.cur.mstatus } = t.cur ∧ t'.fault = t.fault

/-- The block never reads `mcause` or `mtval` (R31, R32, as far as they say so). Two runs of any length that start alike but for
these two latches agree, after every number of cycles, in everything but these two. -/
def Obligations.CauseAndValueLatchesNeverRead : Prop :=
  ∀ (n : Nat) (s : State) (c v : Word),
    ∃ t t', runFor n s = .next t
      ∧ runFor n { s with cur := { s.cur with mcause := c, mtval := v } } = .next t'
      ∧ { t'.cur with mcause := t.cur.mcause, mtval := t.cur.mtval } = t.cur ∧ t'.fault = t.fault

/-! ## Datapath -/

/-- R16: the bit helpers, bit by bit. -/
def Obligations.BitHelpersActOnOneBit : Prop :=
  ∀ (v : Word) (i j : Nat) (b : BitVec 1), j < 32 →
    (getBit v i).getLsbD 0 = v.getLsbD i
    ∧ (setBit v i).getLsbD j = (if j = i then true else v.getLsbD j)
    ∧ (clearBit v i).getLsbD j = (if j = i then false else v.getLsbD j)
    ∧ (putBit v i b).getLsbD j = (if j = i then b.getLsbD 0 else v.getLsbD j)

/-- R111: push saves MIE into MPIE, clears MIE and changes no other bit. -/
def Obligations.PushSavesInterruptEnable : Prop :=
  ∀ m : Word,
    push m = clearBit (clearBit m 7 ||| ((getBit m 3).zeroExtend 32 <<< 7)) 3
    ∧ push m = (m &&& 0xFFFFFF77#32) ||| ((m &&& 0x00000008#32) <<< 4)
    ∧ mpie (push m) = mie m ∧ mie (push m) = false
    ∧ ∀ j, j ≠ 3 → j ≠ 7 → (push m).getLsbD j = m.getLsbD j

/-- R113: pop restores MIE from MPIE, clears MPIE and changes no other bit. -/
def Obligations.PopRestoresInterruptEnable : Prop :=
  ∀ m : Word,
    pop m = clearBit (clearBit m 3 ||| ((getBit m 7).zeroExtend 32 <<< 3)) 7
    ∧ pop m = (m &&& 0xFFFFFF77#32) ||| ((m &&& 0x00000080#32) >>> 4)
    ∧ mie (pop m) = mpie m ∧ mpie (pop m) = false
    ∧ ∀ j, j ≠ 3 → j ≠ 7 → (pop m).getLsbD j = m.getLsbD j

/-- The four compositions of push and pop (R115, "derived: from rules R111 and R113"). -/
def Obligations.PushPopCompositions : Prop :=
  ∀ m : Word,
    pop (push m) = m &&& 0xFFFFFF7F#32 ∧ push (pop m) = m &&& 0xFFFFFFF7#32
    ∧ push (push m) = push m &&& 0xFFFFFF7F#32 ∧ pop (pop m) = m &&& 0xFFFFFF77#32

/-- R105, R106: the fields of a cause code, for every word, and the offset of its region. -/
def Obligations.CauseFieldsAndRegionOffset : Prop :=
  ∀ c : Word,
    (isInterrupt c = true ↔ 2 ^ 31 ≤ c.toNat)
    ∧ (causeIndex c).toNat = c.toNat % 2 ^ 31
    ∧ (2 ^ 31 ≤ c.toNat → regionOffset c = 0x00000000#32)
    ∧ (c.toNat < 2 ^ 31 → regionOffset c = 0x00000030#32)

/-- The cause decoder and encoder undo each other for every word, flag and index (R71: "Decoding then
encoding gives back the same 32-bit word, for every word", derived there). -/
def Obligations.CauseCodecRoundTrip : Prop :=
  (∀ c : Word, encodeCause (isInterrupt c) (c.extractLsb' 0 31) = c)
  ∧ (∀ (b : Bool) (k : BitVec 31),
      isInterrupt (encodeCause b k) = b ∧ causeIndex (encodeCause b k) = k.zeroExtend 32)

/-- The vector address as arithmetic modulo 2^32, and what the shift keeps of the index (R108, whose exact
modular reading is the spec's decision D10). -/
def Obligations.VectorAddressFormula : Prop :=
  (∀ mtvec c : Word,
    (vectorAddress mtvec c).toNat
      = (4 * (mtvec.toNat / 4) + (if 2 ^ 31 ≤ c.toNat then 0 else 48) + 4 * (c.toNat % 2 ^ 31)) % 2 ^ 32)
  ∧ (∀ c : Word, (causeIndex c <<< 2) = (c.extractLsb' 0 30 ++ 0#2 : BitVec 32))

/-- Every trap-entry target is a multiple of 4, and the low two bits of mtvec do not matter (R53, "derived:
from 41_datapath.md rule R108"). -/
def Obligations.EntryTargetsAreAligned : Prop :=
  ∀ mtvec c : Word,
    (vectorAddress mtvec c).toNat % 4 = 0
    ∧ ∀ mtvec' : Word, mtvec'.toNat / 4 = mtvec.toNat / 4 → vectorAddress mtvec' c = vectorAddress mtvec c

/-- The vector table is 12 interrupt slots and then 16 exception slots of 4 bytes from the base (R57), and
no two of its 28 codes share a slot (inferred from R108). -/
def Obligations.VectorTableLayout : Prop :=
  (∀ (mtvec : Word) (i : Nat), i < 12 →
    vectorAddress mtvec (encodeCause true (BitVec.ofNat 31 i)) = vectorBase mtvec + BitVec.ofNat 32 (4 * i))
  ∧ (∀ (mtvec : Word) (e : Nat), e < 16 →
    vectorAddress mtvec (encodeCause false (BitVec.ofNat 31 e))
      = vectorBase mtvec + 0x30#32 + BitVec.ofNat 32 (4 * e))
  ∧ (∀ mtvec c d : Word, causeClass c ≠ .outside → causeClass d ≠ .outside →
      vectorAddress mtvec c = vectorAddress mtvec d → c = d)

/-- "Consequences [derived: from rule R108]" of R110: what the formula gives for codes outside the table: a collision with an exception slot, an
address past the table, and the loss of index bit 30. -/
def Obligations.OutsideCodesTakeFormulaValue : Prop :=
  (∀ (mtvec : Word) (i : Nat), 12 ≤ i → i ≤ 23 →
    vectorAddress mtvec (encodeCause true (BitVec.ofNat 31 i))
      = vectorAddress mtvec (encodeCause false (BitVec.ofNat 31 (i - 12))))
  ∧ (∀ (mtvec : Word) (e : BitVec 31), 16 ≤ e.toNat →
      vectorAddress mtvec (encodeCause false e) = vectorBase mtvec + 0x30#32 + 4#32 * e.zeroExtend 32)
  ∧ (∀ mtvec c : Word, vectorAddress mtvec (c ^^^ 0x40000000#32) = vectorAddress mtvec c)

/-! ## Decoding -/

/-- R78: every one of the 1024 words selects a well-formed set of operations in phase order: at most one of
each group, and RESET alone exactly when `rst = 1`. -/
def Obligations.EveryWordSelectsOneCycle : Prop :=
  ∀ w : CycleWord, wfCycle (decode w) = true ∧ (decode w = [.reset] ↔ w.cs.getLsbD 9 = true)

/-- Decode and encode agree on every well-formed cycle, with every operand at every value (R77 to R82). -/
def Obligations.DecodeEncodeCycle : Prop :=
  ∀ ops : List Instr, wfCycle ops = true → decode (encodeCycle ops) = ops

/-- Words written out from R77, R79, R80, R81 and R82, and what they stand for. Which of its operations
`decodeTableWord` names a cycle after is the model's own, log entry 3 (DESIGN CHOICE); that 0x400 is no word
is log entry 8 (DESIGN CHOICE). -/
def Obligations.WordsFromTheTableDecode : Prop :=
  decodeTableWord 16 0x200 = some .reset
  ∧ decodeTableWord 16 0x010 = some .reqRet
  ∧ decodeTableWord 16 0x00C = some .evTrap
  ∧ decodeTableWord 16 0x001 = some (.evSetCsrJump 0#32)
  ∧ decodeTableWord 16 0x1C0 = some (.extWrMstatus 0#32)
  ∧ decodeTableWord 16 0x400 = none

/-! ## Several cycles -/

/-- R128 (derived there): from the second idle cycle without inputs on, for any number of cycles, no
register changes; the first one deasserts the three flags and leaves everything else as it was. -/
def Obligations.IdleIsStable : Prop :=
  ∀ (n : Nat) (s : State), (∀ k < n + 1, ∃ i, s.script[k]? = some i ∧ Quiet i) → s.cur.state = .idle →
    ∃ t u, step s = .next t ∧ runFor (n + 1) s = .next u
      ∧ t.cur.state = .idle ∧ FlagsDeasserted t.cur ∧ t.cur.pcToSet = s.cur.pcToSet
      ∧ LatchesKept s.cur t.cur ∧ RecordKept s.cur t.cur ∧ u.cur = t.cur ∧ u.fault = s.fault

/-- R152, R186 (derived there): entry through a request. The redirect and the CSR writes come at the second edge, the
pulse is one edge wide, and `flush` is never asserted. -/
def Obligations.RequestEntryTakesTwoEdges : Prop :=
  ∀ (s : State) (i j k : Inputs) (is : List Inputs), s.script = i :: j :: k :: is →
    OnlyReqExc i → Quiet j → Quiet k → s.cur.state = .idle →
    ∃ t u v, step s = .next t ∧ step t = .next u ∧ step u = .next v
      ∧ FlagsDeasserted t.cur
      ∧ u.cur.setPc = true ∧ u.cur.rtpm = true ∧ u.cur.flush = false
      ∧ u.cur.pcToSet = vectorAddress j.data.mtvec i.data.cause
      ∧ u.cur.mepc = i.data.epc ∧ u.cur.mcause = i.data.cause ∧ u.cur.mtval = i.data.tval
      ∧ mpie u.cur.mstatus = mie s.cur.mstatus ∧ mie u.cur.mstatus = false
      ∧ FlagsDeasserted v.cur ∧ v.cur.state = .idle

/-- R152, R187 (derived there): entry through the trigger with its record in the same cycle. `flush` is one edge wide
and the redirect comes on the next edge. -/
def Obligations.TriggerEntryFlushesThenRedirects : Prop :=
  ∀ (s : State) (i j : Inputs) (is : List Inputs), s.script = i :: j :: is →
    ReqExcWithTrap i → Quiet j →
    ∃ t u, step s = .next t ∧ step t = .next u
      ∧ t.cur.flush = true ∧ RedirectKept s.cur t.cur
      ∧ u.cur.flush = false ∧ u.cur.setPc = true ∧ u.cur.rtpm = true
      ∧ u.cur.pcToSet = vectorAddress j.data.mtvec i.data.cause
      ∧ u.cur.mepc = i.data.epc ∧ u.cur.mcause = i.data.cause ∧ u.cur.mtval = i.data.tval
      ∧ u.cur.mstatus = push s.cur.mstatus

/-- R155, R188 (derived there), R136: return through a request. The target and the restored status come at the second
edge, with no redirect yet; the redirect comes at the third, one more than an entry takes. -/
def Obligations.RequestReturnTakesThreeEdges : Prop :=
  ∀ (s : State) (i j k : Inputs) (is : List Inputs), s.script = i :: j :: k :: is →
    OnlyReqRet i → Quiet j → Quiet k → s.cur.state = .idle →
    ∃ t u v, step s = .next t ∧ step t = .next u ∧ step u = .next v
      ∧ FlagsDeasserted t.cur ∧ FlagsDeasserted u.cur
      ∧ u.cur.pcToSet = s.cur.mepc
      ∧ mie u.cur.mstatus = mpie s.cur.mstatus ∧ mpie u.cur.mstatus = false
      ∧ v.cur.setPc = true ∧ v.cur.rtpm = true ∧ v.cur.flush = false
      ∧ v.cur.pcToSet = s.cur.mepc ∧ v.cur.state = .idle ∧ v.cur.mepc = s.cur.mepc

/-- R155, R189 (derived there): return through the trigger, from any state. -/
def Obligations.TriggerReturnFlushesThenRedirects : Prop :=
  ∀ (s : State) (i j k : Inputs) (is : List Inputs), s.script = i :: j :: k :: is →
    OnlyTrapReturn i → Quiet j → Quiet k →
    ∃ t u v, step s = .next t ∧ step t = .next u ∧ step u = .next v
      ∧ t.cur.flush = true ∧ u.cur.flush = false ∧ u.cur.pcToSet = s.cur.mepc
      ∧ u.cur.mstatus = pop s.cur.mstatus
      ∧ v.cur.setPc = true ∧ v.cur.rtpm = true ∧ v.cur.flush = false ∧ v.cur.pcToSet = s.cur.mepc

/-- R115, R183 (derived there): an entry and then the earliest return, from idle and for every data input. The pipeline
is redirected to the trapped address, MIE has its value from before the trap and MPIE is clear. -/
def Obligations.EntryThenReturnRoundTrip : Prop :=
  ∀ (s : State) (i₀ i₁ i₂ i₃ i₄ : Inputs) (is : List Inputs),
    s.script = i₀ :: i₁ :: i₂ :: i₃ :: i₄ :: is →
    OnlyReqExc i₀ → Quiet i₁ → OnlyReqRet i₂ → Quiet i₃ → Quiet i₄ → s.cur.state = .idle →
    ∃ t, runFor 5 s = .next t
      ∧ t.cur.setPc = true ∧ t.cur.rtpm = true ∧ t.cur.pcToSet = i₀.data.epc
      ∧ t.cur.mstatus = s.cur.mstatus &&& 0xFFFFFF7F#32 ∧ t.cur.state = .idle ∧ t.fault = s.fault

/-- R182: while the entry trigger is held, for any number of cycles and whatever else is asserted, the
state stays `SetCSRJump`, `flush` stays asserted and no entry is committed: the redirect outputs hold, and
so do the latches where nothing writes them from outside. The same for the return trigger alone and
`ReturnFromTrap`. -/
def Obligations.HeldTriggerCommitsNothing : Prop :=
  (∀ (n : Nat) (s : State),
    (∀ k < n + 1, ∃ i, s.script[k]? = some i ∧ i.rst = false ∧ i.beginTrap = true) →
    ∃ t, runFor (n + 1) s = .next t
      ∧ t.cur.state = .setCSRJump ∧ t.cur.flush = true ∧ RedirectKept s.cur t.cur ∧ t.fault = s.fault
      ∧ ((∀ k < n + 1, ∃ i, s.script[k]? = some i ∧ i.extWe = false) → LatchesKept s.cur t.cur))
  ∧ (∀ (n : Nat) (s : State),
    (∀ k < n + 1, ∃ i, s.script[k]? = some i ∧ i.rst = false ∧ i.beginTrap = false
      ∧ i.beginTrapReturn = true) →
    ∃ t, runFor (n + 1) s = .next t
      ∧ t.cur.state = .returnFromTrap ∧ t.cur.flush = true ∧ RedirectKept s.cur t.cur ∧ t.fault = s.fault
      ∧ ((∀ k < n + 1, ∃ i, s.script[k]? = some i ∧ i.extWe = false) → LatchesKept s.cur t.cur))

/-- R177, R178 (derived there): a request is performed exactly when it comes in `Idle` or with the matching trigger. -/
def Obligations.RequestPerformedIffAccepted : Prop :=
  (∀ s : State, s.inputs.rst = false → s.inputs.reqExc = true →
    ∃ t, step s = .next t ∧ (t.cur.state = .setCSRJump ↔ requestAccepted s = true)
      ∧ t.cur.recEpc = s.inputs.data.epc ∧ t.cur.recCause = s.inputs.data.cause
      ∧ t.cur.recTval = s.inputs.data.tval)
  ∧ (∀ s : State, s.inputs.rst = false → s.inputs.reqExc = false → s.inputs.reqRet = true →
    ∃ t, step s = .next t ∧
      (t.cur.state = .returnFromTrap ↔ requestAccepted s = true))

/-- R179 (derived there): in the `SetCSRJump` cycle the entry trigger delays the commit by one cycle, and the return
trigger discards it: the next cycles return to the old `mepc` instead. -/
def Obligations.TriggerCancelsPendingEntry : Prop :=
  ∀ (s : State) (i j : Inputs) (is : List Inputs), s.script = i :: j :: is → s.cur.state = .setCSRJump →
    Quiet j →
    (OnlyTrap i → ∃ t u, step s = .next t ∧ step t = .next u ∧ LatchesKept s.cur t.cur
      ∧ RedirectKept s.cur t.cur ∧ u.cur.mepc = s.cur.recEpc ∧ u.cur.mcause = s.cur.recCause
      ∧ u.cur.mtval = s.cur.recTval ∧ u.cur.mstatus = push s.cur.mstatus ∧ u.cur.setPc = true)
    ∧ (OnlyTrapReturn i → ∃ t u, step s = .next t ∧ step t = .next u ∧ LatchesKept s.cur t.cur
      ∧ RedirectKept s.cur t.cur ∧ u.cur.state = .setPc ∧ u.cur.mepc = s.cur.mepc
      ∧ u.cur.mcause = s.cur.mcause ∧ u.cur.mtval = s.cur.mtval ∧ u.cur.pcToSet = s.cur.mepc)

/-- R180, R174 (derived there): an entry trigger without a new request enters the trap of whatever record is held; with
the reset record that is exception 0, at B + 0x30. -/
def Obligations.StaleRecordIsConsumedAgain : Prop :=
  ∀ (s : State) (i j : Inputs) (is : List Inputs), s.script = i :: j :: is → OnlyTrap i → Quiet j →
    ∃ t u, step s = .next t ∧ step t = .next u
      ∧ u.cur.mepc = s.cur.recEpc ∧ u.cur.mcause = s.cur.recCause ∧ u.cur.mtval = s.cur.recTval
      ∧ u.cur.setPc = true ∧ u.cur.pcToSet = vectorAddress j.data.mtvec s.cur.recCause
      ∧ (s.cur.recCause = 0#32 → u.cur.pcToSet = vectorBase j.data.mtvec + 0x30#32)

/-- R181 (derived there): a record that comes one cycle after the trigger is too late: the old one is committed, and the
request's state write is lost. -/
def Obligations.LateRecordMissesTheEntry : Prop :=
  ∀ (s : State) (i j : Inputs) (is : List Inputs), s.script = i :: j :: is → OnlyTrap i → OnlyReqExc j →
    ∃ t u, step s = .next t ∧ step t = .next u
      ∧ u.cur.mepc = s.cur.recEpc ∧ u.cur.mcause = s.cur.recCause ∧ u.cur.mtval = s.cur.recTval
      ∧ u.cur.pcToSet = vectorAddress j.data.mtvec s.cur.recCause
      ∧ u.cur.state = .idle
      ∧ u.cur.recEpc = j.data.epc ∧ u.cur.recCause = j.data.cause ∧ u.cur.recTval = j.data.tval

/-- R183 (derived there): after a request in `Idle`, a return request in the next cycle is lost and one in the cycle
after it is performed. -/
def Obligations.EarliestReturnAfterEntry : Prop :=
  ∀ (s : State) (i j k : Inputs) (is : List Inputs), s.script = i :: j :: k :: is → OnlyReqExc i →
    s.cur.state = .idle →
    (OnlyReqRet j → Quiet k → ∃ t u v, step s = .next t ∧ step t = .next u ∧ step u = .next v
      ∧ u.cur.state = .idle ∧ v.cur.state = .idle ∧ v.cur.mstatus = push s.cur.mstatus)
    ∧ (Quiet j → OnlyReqRet k → ∃ t u v, step s = .next t ∧ step t = .next u ∧ step u = .next v
      ∧ v.cur.state = .returnFromTrap)

/-- R184 (derived there): a return uses the `mepc` written in its request cycle, and not the one written in the cycle
that restores the status. -/
def Obligations.ReturnTargetWriteWindow : Prop :=
  ∀ (s : State) (i j : Inputs) (is : List Inputs), s.script = i :: j :: is → s.cur.state = .idle →
    Asserts i false false false false true true → selectLatch i.extSel = .mepc →
    Asserts j false false false false false true → selectLatch j.extSel = .mepc →
    ∃ t u, step s = .next t ∧ step t = .next u ∧ t.cur.mepc = i.data.wdata
      ∧ u.cur.pcToSet = i.data.wdata ∧ u.cur.mepc = j.data.wdata ∧ u.fault = s.fault

/-- R104, R132 (derived there): a status written in a trigger cycle is the one that the entry pushes, or the return
pops, in the next. -/
def Obligations.StatusWrittenInTriggerCycleIsUsed : Prop :=
  ∀ (s : State) (i j : Inputs) (is : List Inputs), s.script = i :: j :: is → Quiet j →
    i.extWe = true → selectLatch i.extSel = .mstatus → i.rst = false →
    (i.beginTrap = true → ∃ t u, step s = .next t ∧ step t = .next u ∧ t.fault = s.fault
      ∧ t.cur.mstatus = i.data.wdata ∧ u.cur.mstatus = push i.data.wdata)
    ∧ (i.beginTrap = false → i.beginTrapReturn = true → ∃ t u, step s = .next t ∧ step t = .next u
      ∧ t.fault = s.fault ∧ t.cur.mstatus = i.data.wdata ∧ u.cur.mstatus = pop i.data.wdata)

/-- R185 (derived there): a return trigger right after an entry holds `set_pc` through the whole return: it is asserted
on four consecutive edges, with the target changing from the vector to `mepc`. -/
def Obligations.RedirectHeldOverFourEdges : Prop :=
  ∀ (s : State) (i₀ i₁ i₂ i₃ i₄ : Inputs) (is : List Inputs),
    s.script = i₀ :: i₁ :: i₂ :: i₃ :: i₄ :: is →
    OnlyReqExc i₀ → Quiet i₁ → OnlyTrapReturn i₂ → Quiet i₃ → Quiet i₄ → s.cur.state = .idle →
    ∃ t₀ t₁ t₂ t₃ t₄, step s = .next t₀ ∧ step t₀ = .next t₁ ∧ step t₁ = .next t₂ ∧ step t₂ = .next t₃
      ∧ step t₃ = .next t₄ ∧ t₀.cur.setPc = false
      ∧ t₁.cur.setPc = true ∧ t₁.cur.pcToSet = vectorAddress i₁.data.mtvec i₀.data.cause
      ∧ t₂.cur.setPc = true ∧ t₂.cur.pcToSet = t₁.cur.pcToSet ∧ t₂.cur.flush = true
      ∧ t₃.cur.setPc = true ∧ t₃.cur.pcToSet = i₀.data.epc
      ∧ t₄.cur.setPc = true ∧ t₄.cur.pcToSet = i₀.data.epc

/-- R157 (derived there): a second entry before a return overwrites the trap frame and saves MIE = 0 into MPIE, so the
first trap's MIE is lost. -/
def Obligations.NestedEntryLosesTheFirst : Prop :=
  ∀ (s : State) (i₀ i₁ i₂ i₃ : Inputs) (is : List Inputs), s.script = i₀ :: i₁ :: i₂ :: i₃ :: is →
    OnlyReqExc i₀ → Quiet i₁ → OnlyReqExc i₂ → Quiet i₃ → s.cur.state = .idle →
    ∃ t, runFor 4 s = .next t
      ∧ t.cur.mepc = i₂.data.epc ∧ t.cur.mcause = i₂.data.cause ∧ t.cur.mtval = i₂.data.tval
      ∧ mie t.cur.mstatus = false ∧ mpie t.cur.mstatus = false

/-- R42, R43 (decision D19 and "derived" there): each output port shows the current value of its register,
and shows the old value until the edge, whatever the operations of the cycle write. R142 (decision D24): a
run's observation is the ports after each edge in order, with the fault mark beside them. -/
def Obligations.PortsObservedAfterEachEdge : Prop :=
  (∀ s : State, s.observe
    = (⟨s.cur.flush, s.cur.setPc, s.cur.pcToSet, s.cur.rtpm, s.cur.mepc, s.cur.mcause, s.cur.mtval,
        s.cur.mstatus⟩, s.fault))
  ∧ (∀ (op : Instr) (s t : State), exec op s = .next t → t.outputs = s.outputs)
  ∧ (∀ (n : Nat) (s : State), (observeRun n s).length = n
      ∧ ∀ k < n, ∃ t, runFor (k + 1) s = .next t ∧ (observeRun n s)[k]? = some t.observe)
end

