-- ==== Sys2Proof/Laws/Decode.lean ====
section
/-! SUPPORT. Which rows of the operation table a packed `CS` word hits, and the operations of a cycle as
conditions on its inputs (spec/30_encoding.md R79 to R82). Later proofs cite `decode_selectorOf` and
never unfold a mask. -/

namespace Sys2Proof

open Machine

/-! Row hits. -/

theorem resetRows_hit : ∀ (st : BitVec 2) (btr bt rr re we : Bool) (sel : BitVec 2) (rst : Bool),
    (resetRows.map fun r => r.hits (packSelector st btr bt rr re we sel rst)) = [rst] := by
  decide

theorem requestRows_hit : ∀ (st : BitVec 2) (btr bt rr re we : Bool) (sel : BitVec 2) (rst : Bool),
    (requestRows.map fun r => r.hits (packSelector st btr bt rr re we sel rst))
      = [!rst && re, !rst && !re && rr] := by
  decide

theorem evaluateRows_hit : ∀ (st : BitVec 2) (btr bt rr re we : Bool) (sel : BitVec 2) (rst : Bool),
    (evaluateRows.map fun r => r.hits (packSelector st btr bt rr re we sel rst))
      = [!rst && bt, !rst && !bt && btr,
         !rst && !bt && !btr && decodeCtl st == .idle, !rst && !bt && !btr && decodeCtl st == .setCSRJump,
         !rst && !bt && !btr && decodeCtl st == .returnFromTrap,
         !rst && !bt && !btr && decodeCtl st == .setPc] := by
  decide

theorem externalRows_hit : ∀ (st : BitVec 2) (btr bt rr re we : Bool) (sel : BitVec 2) (rst : Bool),
    (externalRows.map fun r => r.hits (packSelector st btr bt rr re we sel rst))
      = [!rst && we && selectLatch sel == .mepc, !rst && we && selectLatch sel == .mcause,
         !rst && we && selectLatch sel == .mtval, !rst && we && selectLatch sel == .mstatus] := by
  decide

/-! The operations of a cycle, group by group, as R79 to R81 state their conditions. -/

/-- R79: the request of a cycle without reset. -/
def requestOps (i : Inputs) : List Instr :=
  if i.reqExc then [.reqExc i.data.epc i.data.cause i.data.tval]
  else if i.reqRet then [.reqRet]
  else []

/-- R80: the evaluate row of a cycle without reset. -/
def evaluateOp (i : Inputs) (st : Ctl) : Instr :=
  if i.beginTrap then .evTrap
  else if i.beginTrapReturn then .evTrapReturn
  else
    match st with
    | .idle => .evIdle
    | .setCSRJump => .evSetCsrJump i.data.mtvec
    | .returnFromTrap => .evReturnFromTrap
    | .setPc => .evSetPc

/-- R81: the external write of a latch. -/
def externalOp (l : Latch) (v : Word) : Instr :=
  match l with
  | .mepc => .extWrMepc v
  | .mcause => .extWrMcause v
  | .mtval => .extWrMtval v
  | .mstatus => .extWrMstatus v

/-- R81: the external write of a cycle without reset. -/
def externalOps (i : Inputs) : List Instr :=
  if i.extWe then [externalOp (selectLatch i.extSel) i.data.wdata] else []

/-- R82: RESET. -/
theorem selectRow_reset (i : Inputs) (st : BitVec 2) (d : Operands) :
    selectRow resetRows ⟨selectorOf i st, d⟩ = if i.rst then [.reset] else [] := by
  have h := resetRows_hit st i.beginTrapReturn i.beginTrap i.reqRet i.reqExc i.extWe i.extSel i.rst
  simp only [resetRows, List.map_cons, List.map_nil, List.cons.injEq, and_true] at h
  simp only [selectRow, resetRows, List.find?, selectorOf, h]
  cases i.rst <;> rfl

/-- R79, with the data operands of the inputs. -/
theorem selectRow_request (i : Inputs) (st : BitVec 2) :
    selectRow requestRows ⟨selectorOf i st, i.data⟩ = if i.rst then [] else requestOps i := by
  have h := requestRows_hit st i.beginTrapReturn i.beginTrap i.reqRet i.reqExc i.extWe i.extSel i.rst
  simp only [requestRows, List.map_cons, List.map_nil, List.cons.injEq, and_true] at h
  obtain ⟨h₁, h₂⟩ := h
  simp only [selectRow, requestRows, List.find?, selectorOf, h₁, h₂, requestOps]
  cases i.rst <;> cases i.reqExc <;> cases i.reqRet <;> rfl

/-- R80: exactly one evaluate row runs in every cycle without reset. -/
theorem selectRow_evaluate (i : Inputs) (st : BitVec 2) :
    selectRow evaluateRows ⟨selectorOf i st, i.data⟩
      = if i.rst then [] else [evaluateOp i (decodeCtl st)] := by
  have h := evaluateRows_hit st i.beginTrapReturn i.beginTrap i.reqRet i.reqExc i.extWe i.extSel i.rst
  simp only [evaluateRows, List.map_cons, List.map_nil, List.cons.injEq, and_true] at h
  obtain ⟨h₁, h₂, h₃, h₄, h₅, h₆⟩ := h
  simp only [selectRow, evaluateRows, List.find?, selectorOf, h₁, h₂, h₃, h₄, h₅, h₆, evaluateOp]
  cases i.rst <;> cases i.beginTrap <;> cases i.beginTrapReturn <;> cases decodeCtl st <;> rfl

/-- R81. -/
theorem selectRow_external (i : Inputs) (st : BitVec 2) :
    selectRow externalRows ⟨selectorOf i st, i.data⟩ = if i.rst then [] else externalOps i := by
  have h := externalRows_hit st i.beginTrapReturn i.beginTrap i.reqRet i.reqExc i.extWe i.extSel i.rst
  simp only [externalRows, List.map_cons, List.map_nil, List.cons.injEq, and_true] at h
  obtain ⟨h₁, h₂, h₃, h₄⟩ := h
  simp only [selectRow, externalRows, List.find?, selectorOf, h₁, h₂, h₃, h₄, externalOps]
  cases i.rst <;> cases i.extWe <;> cases selectLatch i.extSel <;> rfl

/-- The operations of a cycle (R78 to R82): RESET alone, or request, evaluate row and external write. -/
theorem decode_selectorOf (i : Inputs) (st : BitVec 2) :
    decode ⟨selectorOf i st, i.data⟩
      = if i.rst then [.reset]
        else requestOps i ++ [evaluateOp i (decodeCtl st)] ++ externalOps i := by
  rw [decode, selectRow_reset, selectRow_request, selectRow_evaluate, selectRow_external]
  cases i.rst <;> rfl

/-! Every word of `CS` is the packing of its own fields, so the lemmas above speak of all 1024 words. -/

theorem packSelector_fields : ∀ cs : Selector,
    packSelector (stateField cs) (cs.getLsbD 2) (cs.getLsbD 3) (cs.getLsbD 4) (cs.getLsbD 5)
      (cs.getLsbD 6) (cs.extractLsb' 7 2) (cs.getLsbD 9) = cs := by
  decide

/-- A cycle's word is the packing of the inputs and the state it stands for. -/
theorem selectorOf_inputsOf (w : CycleWord) : ⟨selectorOf (inputsOf w) (stateField w.cs), (inputsOf w).data⟩ = w := by
  have h : selectorOf (inputsOf w) (stateField w.cs) = w.cs := packSelector_fields w.cs
  rw [h]
  rfl

/-- The operations of any cycle's word. -/
theorem decode_word (w : CycleWord) :
    decode w
      = if (inputsOf w).rst then [.reset]
        else requestOps (inputsOf w) ++ [evaluateOp (inputsOf w) (decodeCtl (stateField w.cs))]
          ++ externalOps (inputsOf w) := by
  rw [← decode_selectorOf, selectorOf_inputsOf]

/-! Which operations a word selects, group by group. -/

/-- An operation of a cycle is RESET, or comes from one of the three groups. -/
theorem mem_decode (op : Instr) (w : CycleWord) :
    op ∈ decode w ↔
      ((inputsOf w).rst = true ∧ op = .reset)
      ∨ ((inputsOf w).rst = false
        ∧ (op ∈ requestOps (inputsOf w) ∨ op = evaluateOp (inputsOf w) (decodeCtl (stateField w.cs))
          ∨ op ∈ externalOps (inputsOf w))) := by
  rw [decode_word]
  cases (inputsOf w).rst <;> simp

/-- The request of a cycle (R79). -/
theorem mem_requestOps (op : Instr) (i : Inputs) :
    op ∈ requestOps i ↔
      (i.reqExc = true ∧ op = .reqExc i.data.epc i.data.cause i.data.tval)
      ∨ (i.reqExc = false ∧ i.reqRet = true ∧ op = .reqRet) := by
  unfold requestOps
  cases i.reqExc <;> cases i.reqRet <;> simp

/-- The evaluate row of a cycle (R80). -/
theorem eq_evaluateOp (op : Instr) (i : Inputs) (st : Ctl) :
    op = evaluateOp i st ↔
      (i.beginTrap = true ∧ op = .evTrap)
      ∨ (i.beginTrap = false ∧ i.beginTrapReturn = true ∧ op = .evTrapReturn)
      ∨ (i.beginTrap = false ∧ i.beginTrapReturn = false ∧ st = .idle ∧ op = .evIdle)
      ∨ (i.beginTrap = false ∧ i.beginTrapReturn = false ∧ st = .setCSRJump
        ∧ op = .evSetCsrJump i.data.mtvec)
      ∨ (i.beginTrap = false ∧ i.beginTrapReturn = false ∧ st = .returnFromTrap
        ∧ op = .evReturnFromTrap)
      ∨ (i.beginTrap = false ∧ i.beginTrapReturn = false ∧ st = .setPc ∧ op = .evSetPc) := by
  unfold evaluateOp
  cases i.beginTrap <;> cases i.beginTrapReturn <;> cases st <;> simp

/-- The external write of a cycle (R81). -/
theorem mem_externalOps (op : Instr) (i : Inputs) :
    op ∈ externalOps i ↔
      i.extWe = true ∧
        ((selectLatch i.extSel = .mepc ∧ op = .extWrMepc i.data.wdata)
        ∨ (selectLatch i.extSel = .mcause ∧ op = .extWrMcause i.data.wdata)
        ∨ (selectLatch i.extSel = .mtval ∧ op = .extWrMtval i.data.wdata)
        ∨ (selectLatch i.extSel = .mstatus ∧ op = .extWrMstatus i.data.wdata)) := by
  unfold externalOps externalOp
  cases i.extWe <;> cases selectLatch i.extSel <;> simp

/-- The groups of the operations, for statements about a whole cycle. -/
theorem requestOps_group (i : Inputs) : ∀ op ∈ requestOps i, op.group = .request := by
  intro op h
  rcases (mem_requestOps op i).1 h with ⟨-, rfl⟩ | ⟨-, -, rfl⟩ <;> rfl

theorem evaluateOp_group (i : Inputs) (st : Ctl) : (evaluateOp i st).group = .evaluate := by
  rcases (eq_evaluateOp _ i st).1 rfl with h | h | h | h | h | h
  · rw [h.2]; rfl
  · rw [h.2.2]; rfl
  all_goals rw [h.2.2.2]; rfl

theorem externalOps_group (i : Inputs) : ∀ op ∈ externalOps i, op.group = .external := by
  intro op h
  rcases ((mem_externalOps op i).1 h).2 with ⟨-, rfl⟩ | ⟨-, rfl⟩ | ⟨-, rfl⟩ | ⟨-, rfl⟩ <;> rfl

/-- The state encoding loses nothing (R65, R66). -/
@[simp] theorem decodeCtl_encodeCtl (st : Ctl) : decodeCtl (encodeCtl st) = st := by
  cases st <;> rfl

@[simp] theorem encodeCtl_decodeCtl : ∀ b : BitVec 2, encodeCtl (decodeCtl b) = b := by
  decide

/-- The latch select loses nothing (R83). -/
@[simp] theorem selectLatch_latchSelect (l : Latch) : selectLatch (latchSelect l) = l := by
  cases l <;> rfl

@[simp] theorem latchSelect_selectLatch : ∀ b : BitVec 2, latchSelect (selectLatch b) = b := by
  decide

end Sys2Proof
end

