-- ==== Sys2Proof/Laws/State.lean ====
section
/-! SUPPORT. One lemma per field per update of the registers and of the state, so that no later proof
unfolds a record update. -/

namespace Sys2Proof.Machine

/-! record -/

@[simp] theorem Regs.record_state (n : Regs) (epc cause tval : Word) :
    (n.record epc cause tval).state = n.state := rfl
@[simp] theorem Regs.record_recEpc (n : Regs) (epc cause tval : Word) :
    (n.record epc cause tval).recEpc = epc := rfl
@[simp] theorem Regs.record_recCause (n : Regs) (epc cause tval : Word) :
    (n.record epc cause tval).recCause = cause := rfl
@[simp] theorem Regs.record_recTval (n : Regs) (epc cause tval : Word) :
    (n.record epc cause tval).recTval = tval := rfl
@[simp] theorem Regs.record_flush (n : Regs) (epc cause tval : Word) :
    (n.record epc cause tval).flush = n.flush := rfl
@[simp] theorem Regs.record_setPc (n : Regs) (epc cause tval : Word) :
    (n.record epc cause tval).setPc = n.setPc := rfl
@[simp] theorem Regs.record_pcToSet (n : Regs) (epc cause tval : Word) :
    (n.record epc cause tval).pcToSet = n.pcToSet := rfl
@[simp] theorem Regs.record_rtpm (n : Regs) (epc cause tval : Word) :
    (n.record epc cause tval).rtpm = n.rtpm := rfl
@[simp] theorem Regs.record_mepc (n : Regs) (epc cause tval : Word) :
    (n.record epc cause tval).mepc = n.mepc := rfl
@[simp] theorem Regs.record_mcause (n : Regs) (epc cause tval : Word) :
    (n.record epc cause tval).mcause = n.mcause := rfl
@[simp] theorem Regs.record_mtval (n : Regs) (epc cause tval : Word) :
    (n.record epc cause tval).mtval = n.mtval := rfl
@[simp] theorem Regs.record_mstatus (n : Regs) (epc cause tval : Word) :
    (n.record epc cause tval).mstatus = n.mstatus := rfl

/-! goTo -/

@[simp] theorem Regs.goTo_state (n : Regs) (st : Ctl) : (n.goTo st).state = st := rfl
@[simp] theorem Regs.goTo_recEpc (n : Regs) (st : Ctl) : (n.goTo st).recEpc = n.recEpc := rfl
@[simp] theorem Regs.goTo_recCause (n : Regs) (st : Ctl) : (n.goTo st).recCause = n.recCause := rfl
@[simp] theorem Regs.goTo_recTval (n : Regs) (st : Ctl) : (n.goTo st).recTval = n.recTval := rfl
@[simp] theorem Regs.goTo_flush (n : Regs) (st : Ctl) : (n.goTo st).flush = n.flush := rfl
@[simp] theorem Regs.goTo_setPc (n : Regs) (st : Ctl) : (n.goTo st).setPc = n.setPc := rfl
@[simp] theorem Regs.goTo_pcToSet (n : Regs) (st : Ctl) : (n.goTo st).pcToSet = n.pcToSet := rfl
@[simp] theorem Regs.goTo_rtpm (n : Regs) (st : Ctl) : (n.goTo st).rtpm = n.rtpm := rfl
@[simp] theorem Regs.goTo_mepc (n : Regs) (st : Ctl) : (n.goTo st).mepc = n.mepc := rfl
@[simp] theorem Regs.goTo_mcause (n : Regs) (st : Ctl) : (n.goTo st).mcause = n.mcause := rfl
@[simp] theorem Regs.goTo_mtval (n : Regs) (st : Ctl) : (n.goTo st).mtval = n.mtval := rfl
@[simp] theorem Regs.goTo_mstatus (n : Regs) (st : Ctl) : (n.goTo st).mstatus = n.mstatus := rfl

/-! putFlush -/

@[simp] theorem Regs.putFlush_state (n : Regs) (b : Bool) : (n.putFlush b).state = n.state := rfl
@[simp] theorem Regs.putFlush_recEpc (n : Regs) (b : Bool) : (n.putFlush b).recEpc = n.recEpc := rfl
@[simp] theorem Regs.putFlush_recCause (n : Regs) (b : Bool) : (n.putFlush b).recCause = n.recCause := rfl
@[simp] theorem Regs.putFlush_recTval (n : Regs) (b : Bool) : (n.putFlush b).recTval = n.recTval := rfl
@[simp] theorem Regs.putFlush_flush (n : Regs) (b : Bool) : (n.putFlush b).flush = b := rfl
@[simp] theorem Regs.putFlush_setPc (n : Regs) (b : Bool) : (n.putFlush b).setPc = n.setPc := rfl
@[simp] theorem Regs.putFlush_pcToSet (n : Regs) (b : Bool) : (n.putFlush b).pcToSet = n.pcToSet := rfl
@[simp] theorem Regs.putFlush_rtpm (n : Regs) (b : Bool) : (n.putFlush b).rtpm = n.rtpm := rfl
@[simp] theorem Regs.putFlush_mepc (n : Regs) (b : Bool) : (n.putFlush b).mepc = n.mepc := rfl
@[simp] theorem Regs.putFlush_mcause (n : Regs) (b : Bool) : (n.putFlush b).mcause = n.mcause := rfl
@[simp] theorem Regs.putFlush_mtval (n : Regs) (b : Bool) : (n.putFlush b).mtval = n.mtval := rfl
@[simp] theorem Regs.putFlush_mstatus (n : Regs) (b : Bool) : (n.putFlush b).mstatus = n.mstatus := rfl

/-! putRedirect -/

@[simp] theorem Regs.putRedirect_state (n : Regs) (b : Bool) : (n.putRedirect b).state = n.state := rfl
@[simp] theorem Regs.putRedirect_recEpc (n : Regs) (b : Bool) : (n.putRedirect b).recEpc = n.recEpc := rfl
@[simp] theorem Regs.putRedirect_recCause (n : Regs) (b : Bool) :
    (n.putRedirect b).recCause = n.recCause := rfl
@[simp] theorem Regs.putRedirect_recTval (n : Regs) (b : Bool) : (n.putRedirect b).recTval = n.recTval := rfl
@[simp] theorem Regs.putRedirect_flush (n : Regs) (b : Bool) : (n.putRedirect b).flush = n.flush := rfl
@[simp] theorem Regs.putRedirect_setPc (n : Regs) (b : Bool) : (n.putRedirect b).setPc = b := rfl
@[simp] theorem Regs.putRedirect_pcToSet (n : Regs) (b : Bool) : (n.putRedirect b).pcToSet = n.pcToSet := rfl
@[simp] theorem Regs.putRedirect_rtpm (n : Regs) (b : Bool) : (n.putRedirect b).rtpm = b := rfl
@[simp] theorem Regs.putRedirect_mepc (n : Regs) (b : Bool) : (n.putRedirect b).mepc = n.mepc := rfl
@[simp] theorem Regs.putRedirect_mcause (n : Regs) (b : Bool) : (n.putRedirect b).mcause = n.mcause := rfl
@[simp] theorem Regs.putRedirect_mtval (n : Regs) (b : Bool) : (n.putRedirect b).mtval = n.mtval := rfl
@[simp] theorem Regs.putRedirect_mstatus (n : Regs) (b : Bool) : (n.putRedirect b).mstatus = n.mstatus := rfl

/-! putTarget -/

@[simp] theorem Regs.putTarget_state (n : Regs) (a : Word) : (n.putTarget a).state = n.state := rfl
@[simp] theorem Regs.putTarget_recEpc (n : Regs) (a : Word) : (n.putTarget a).recEpc = n.recEpc := rfl
@[simp] theorem Regs.putTarget_recCause (n : Regs) (a : Word) : (n.putTarget a).recCause = n.recCause := rfl
@[simp] theorem Regs.putTarget_recTval (n : Regs) (a : Word) : (n.putTarget a).recTval = n.recTval := rfl
@[simp] theorem Regs.putTarget_flush (n : Regs) (a : Word) : (n.putTarget a).flush = n.flush := rfl
@[simp] theorem Regs.putTarget_setPc (n : Regs) (a : Word) : (n.putTarget a).setPc = n.setPc := rfl
@[simp] theorem Regs.putTarget_pcToSet (n : Regs) (a : Word) : (n.putTarget a).pcToSet = a := rfl
@[simp] theorem Regs.putTarget_rtpm (n : Regs) (a : Word) : (n.putTarget a).rtpm = n.rtpm := rfl
@[simp] theorem Regs.putTarget_mepc (n : Regs) (a : Word) : (n.putTarget a).mepc = n.mepc := rfl
@[simp] theorem Regs.putTarget_mcause (n : Regs) (a : Word) : (n.putTarget a).mcause = n.mcause := rfl
@[simp] theorem Regs.putTarget_mtval (n : Regs) (a : Word) : (n.putTarget a).mtval = n.mtval := rfl
@[simp] theorem Regs.putTarget_mstatus (n : Regs) (a : Word) : (n.putTarget a).mstatus = n.mstatus := rfl

/-! putLatch -/

@[simp] theorem Regs.putLatch_state (n : Regs) (l : Latch) (v : Word) :
    (n.putLatch l v).state = n.state := by cases l <;> rfl
@[simp] theorem Regs.putLatch_recEpc (n : Regs) (l : Latch) (v : Word) :
    (n.putLatch l v).recEpc = n.recEpc := by cases l <;> rfl
@[simp] theorem Regs.putLatch_recCause (n : Regs) (l : Latch) (v : Word) :
    (n.putLatch l v).recCause = n.recCause := by cases l <;> rfl
@[simp] theorem Regs.putLatch_recTval (n : Regs) (l : Latch) (v : Word) :
    (n.putLatch l v).recTval = n.recTval := by cases l <;> rfl
@[simp] theorem Regs.putLatch_flush (n : Regs) (l : Latch) (v : Word) :
    (n.putLatch l v).flush = n.flush := by cases l <;> rfl
@[simp] theorem Regs.putLatch_setPc (n : Regs) (l : Latch) (v : Word) :
    (n.putLatch l v).setPc = n.setPc := by cases l <;> rfl
@[simp] theorem Regs.putLatch_pcToSet (n : Regs) (l : Latch) (v : Word) :
    (n.putLatch l v).pcToSet = n.pcToSet := by cases l <;> rfl
@[simp] theorem Regs.putLatch_rtpm (n : Regs) (l : Latch) (v : Word) :
    (n.putLatch l v).rtpm = n.rtpm := by cases l <;> rfl
@[simp] theorem Regs.putLatch_mepc (n : Regs) (l : Latch) (v : Word) :
    (n.putLatch l v).mepc = if l = .mepc then v else n.mepc := by cases l <;> rfl
@[simp] theorem Regs.putLatch_mcause (n : Regs) (l : Latch) (v : Word) :
    (n.putLatch l v).mcause = if l = .mcause then v else n.mcause := by cases l <;> rfl
@[simp] theorem Regs.putLatch_mtval (n : Regs) (l : Latch) (v : Word) :
    (n.putLatch l v).mtval = if l = .mtval then v else n.mtval := by cases l <;> rfl
@[simp] theorem Regs.putLatch_mstatus (n : Regs) (l : Latch) (v : Word) :
    (n.putLatch l v).mstatus = if l = .mstatus then v else n.mstatus := by cases l <;> rfl

/-! write -/

@[simp] theorem State.write_cur (s : State) (f : Regs → Regs) : (s.write f).cur = s.cur := rfl
@[simp] theorem State.write_nxt (s : State) (f : Regs → Regs) : (s.write f).nxt = f s.nxt := rfl
@[simp] theorem State.write_fault (s : State) (f : Regs → Regs) : (s.write f).fault = s.fault := rfl
@[simp] theorem State.write_ctrlWrites (s : State) (f : Regs → Regs) : (s.write f).ctrlWrites = s.ctrlWrites := rfl
@[simp] theorem State.write_script (s : State) (f : Regs → Regs) : (s.write f).script = s.script := rfl
@[simp] theorem State.write_tick (s : State) (f : Regs → Regs) : (s.write f).tick = s.tick := rfl

/-! claim -/

@[simp] theorem State.claim_cur (s : State) (w : List Latch) : (s.claim w).cur = s.cur := rfl
@[simp] theorem State.claim_nxt (s : State) (w : List Latch) : (s.claim w).nxt = s.nxt := rfl
@[simp] theorem State.claim_fault (s : State) (w : List Latch) : (s.claim w).fault = s.fault := rfl
@[simp] theorem State.claim_ctrlWrites (s : State) (w : List Latch) : (s.claim w).ctrlWrites = w := rfl
@[simp] theorem State.claim_script (s : State) (w : List Latch) : (s.claim w).script = s.script := rfl
@[simp] theorem State.claim_tick (s : State) (w : List Latch) : (s.claim w).tick = s.tick := rfl

/-! markFault -/

@[simp] theorem State.markFault_cur (s : State) (f : Fault) : (s.markFault f).cur = s.cur := rfl
@[simp] theorem State.markFault_nxt (s : State) (f : Fault) : (s.markFault f).nxt = s.nxt := rfl
@[simp] theorem State.markFault_fault (s : State) (f : Fault) : (s.markFault f).fault = some f := rfl
@[simp] theorem State.markFault_ctrlWrites (s : State) (f : Fault) : (s.markFault f).ctrlWrites = s.ctrlWrites := rfl
@[simp] theorem State.markFault_script (s : State) (f : Fault) : (s.markFault f).script = s.script := rfl
@[simp] theorem State.markFault_tick (s : State) (f : Fault) : (s.markFault f).tick = s.tick := rfl

/-! beginCycle -/

@[simp] theorem State.beginCycle_cur (s : State) : s.beginCycle.cur = s.cur := rfl
@[simp] theorem State.beginCycle_nxt (s : State) : s.beginCycle.nxt = s.cur := rfl
@[simp] theorem State.beginCycle_fault (s : State) : s.beginCycle.fault = s.fault := rfl
@[simp] theorem State.beginCycle_ctrlWrites (s : State) : s.beginCycle.ctrlWrites = [] := rfl
@[simp] theorem State.beginCycle_script (s : State) : s.beginCycle.script = s.script := rfl
@[simp] theorem State.beginCycle_tick (s : State) : s.beginCycle.tick = s.tick := rfl

/-! clockEdge -/

@[simp] theorem State.clockEdge_cur (s : State) : s.clockEdge.cur = s.nxt := rfl
@[simp] theorem State.clockEdge_nxt (s : State) : s.clockEdge.nxt = s.nxt := rfl
@[simp] theorem State.clockEdge_fault (s : State) : s.clockEdge.fault = s.fault := rfl
@[simp] theorem State.clockEdge_ctrlWrites (s : State) : s.clockEdge.ctrlWrites = [] := rfl
@[simp] theorem State.clockEdge_script (s : State) : s.clockEdge.script = s.script.tail := rfl
@[simp] theorem State.clockEdge_tick (s : State) : s.clockEdge.tick = s.tick + 1 := rfl

end Sys2Proof.Machine
end

