-- ==== Sys2Proof/Laws/Cycle.lean ====
section
/-! SUPPORT. What each operation does, once: `exec` always answers a next state, the operations of a
cycle run to the end, and a step is the edge of what they leave. Later proofs cite `step_eq` and the
phase lemmas and unfold no meaning. -/

namespace Sys2Proof.Machine

/-- What `exec` leaves for each operation; `exec_eq` says that it answers exactly this. -/
def effect (i : Instr) (s : State) : State :=
  match i with
  | .reset => (s.write fun _ => Regs.reset).claim []
  | .reqExc epc cause tval => s.write fun n => (n.record epc cause tval).goTo .setCSRJump
  | .reqRet => s.write (Regs.goTo .returnFromTrap)
  | .evTrap => s.trigger .setCSRJump
  | .evTrapReturn => s.trigger .returnFromTrap
  | .evIdle => (s.write fun n => (n.putRedirect false).putFlush false).claim []
  | .evSetCsrJump mtvec => s.takeTrap mtvec
  | .evReturnFromTrap => s.returnFromTrap
  | .evSetPc => (s.write fun n => ((n.putRedirect true).putFlush false).goTo .idle).claim []
  | .extWrMepc v => s.externalWrite .mepc v
  | .extWrMcause v => s.externalWrite .mcause v
  | .extWrMtval v => s.externalWrite .mtval v
  | .extWrMstatus v => s.externalWrite .mstatus v

/-- Every operation completes (spec/42_evaluate.md R137, R143). -/
theorem exec_eq (i : Instr) (s : State) : exec i s = .next (effect i s) := by
  cases i <;> rfl

/-- The operations of a cycle run to the end. -/
theorem runOps_eq (is : List Instr) (s : State) :
    runOps is s = .next (is.foldl (fun t i => effect i t) s) := by
  induction is generalizing s with
  | nil => rfl
  | cons i is ih => simp only [runOps, exec_eq, ih, List.foldl_cons]

/-- The operations of the coming cycle (spec/30_encoding.md R78). -/
theorem operations_eq (s : State) :
    s.operations
      = if s.inputs.rst then [.reset]
        else requestOps s.inputs ++ [evaluateOp s.inputs s.cur.state] ++ externalOps s.inputs := by
  rw [State.operations, State.cycleWord, decode_selectorOf, decodeCtl_encodeCtl]

/-- What one clock cycle leaves. -/
def afterCycle (s : State) : State :=
  (s.operations.foldl (fun t i => effect i t) s.beginCycle).clockEdge

/-- A step always answers a next state, the edge of what the cycle's operations leave. -/
theorem step_eq (s : State) : step s = .next (afterCycle s) := by
  rw [step, runCycle, runOps_eq]
  rfl

/-! The fields no operation writes. -/

@[simp] theorem effect_cur (i : Instr) (s : State) : (effect i s).cur = s.cur := by
  cases i <;> simp only [effect, State.trigger, State.takeTrap, State.returnFromTrap,
    State.externalWrite] <;> (try split) <;> rfl

@[simp] theorem effect_script (i : Instr) (s : State) : (effect i s).script = s.script := by
  cases i <;> simp only [effect, State.trigger, State.takeTrap, State.returnFromTrap,
    State.externalWrite] <;> (try split) <;> rfl

@[simp] theorem effect_tick (i : Instr) (s : State) : (effect i s).tick = s.tick := by
  cases i <;> simp only [effect, State.trigger, State.takeTrap, State.returnFromTrap,
    State.externalWrite] <;> (try split) <;> rfl

/-! The phases as functions of next values, spec/42_evaluate.md R140. -/

/-- Phase 1 leaves the reference's next values. -/
theorem request_phase (i : Inputs) (s : State) :
    (requestOps i).foldl (fun t o => effect o t) s = s.write (referenceRequest i) := by
  unfold requestOps referenceRequest
  cases i.reqExc <;> cases i.reqRet <;> rfl

/-- Phase 2 leaves the reference's next values and write set. -/
theorem evaluate_phase (i : Inputs) (s : State) :
    effect (evaluateOp i s.cur.state) s
      = (s.write fun n => (referenceEvaluate i s.cur n).1).claim
          (referenceEvaluate i s.cur s.nxt).2 := by
  unfold evaluateOp referenceEvaluate
  cases i.beginTrap <;> cases i.beginTrapReturn <;> cases hs : s.cur.state <;>
    simp only [Bool.false_eq_true, if_true, if_false, effect, State.trigger, State.takeTrap,
      State.returnFromTrap, Regs.goTo, Regs.putFlush, Regs.putRedirect, Regs.putTarget, Regs.putLatch]

/-- Phase 3 leaves the reference's next values and fault mark. -/
theorem external_phase (i : Inputs) (s : State) :
    (externalOps i).foldl (fun t o => effect o t) s
      = { s with
          nxt := (referenceExternal i s.nxt s.ctrlWrites s.fault).1
          fault := (referenceExternal i s.nxt s.ctrlWrites s.fault).2 } := by
  unfold externalOps referenceExternal
  cases i.extWe
  · rfl
  · cases hl : selectLatch i.extSel <;>
      simp only [if_true, List.foldl_cons, List.foldl_nil, externalOp, effect, State.externalWrite] <;>
      split <;> rfl

end Sys2Proof.Machine
end

