-- ==== Sys2Proof/Laws/Observe.lean ====
section
/-! SUPPORT. The observation of a run, cycle by cycle, so that no later proof unfolds it; and a run, in
the same terms. -/

namespace Sys2Proof.Machine

@[simp] theorem observeRun_zero (s : State) : observeRun 0 s = [] := rfl

/-- A run's observation is its first cycle's and then the observation of the rest. -/
theorem observeRun_succ (n : Nat) (s : State) :
    observeRun (n + 1) s = (afterCycle s).observe :: observeRun n (afterCycle s) := by
  rw [observeRun, step_eq]

@[simp] theorem runFor_zero (s : State) : runFor 0 s = .next s := rfl

/-- A run is its first cycle and then the run of the rest. -/
theorem runFor_succ (n : Nat) (s : State) : runFor (n + 1) s = runFor n (afterCycle s) := by
  rw [runFor, step_eq]

@[simp] theorem State.driveInputs_cur (is : List Inputs) (s : State) : (s.driveInputs is).cur = s.cur := rfl
@[simp] theorem State.driveInputs_nxt (is : List Inputs) (s : State) : (s.driveInputs is).nxt = s.nxt := rfl
@[simp] theorem State.driveInputs_fault (is : List Inputs) (s : State) :
    (s.driveInputs is).fault = s.fault := rfl
@[simp] theorem State.driveInputs_ctrlWrites (is : List Inputs) (s : State) :
    (s.driveInputs is).ctrlWrites = s.ctrlWrites := rfl
@[simp] theorem State.driveInputs_script (is : List Inputs) (s : State) :
    (s.driveInputs is).script = is := rfl
@[simp] theorem State.driveInputs_tick (is : List Inputs) (s : State) : (s.driveInputs is).tick = s.tick := rfl

end Sys2Proof.Machine
end

