-- ==== Sys2Proof/Laws/Ops.lean ====
section
/-! SUPPORT. What each shared operation over the state leaves, as one record, so that no later proof
unfolds one. -/

namespace Sys2Proof.Machine

/-- Taking a trap (R130, R153), with every next value it writes. -/
theorem State.takeTrap_eq (mtvec : Word) (s : State) :
    s.takeTrap mtvec
      = { s with
          nxt := { s.nxt with
            state := .idle, flush := false, setPc := true, rtpm := true
            pcToSet := vectorAddress mtvec s.cur.recCause
            mepc := s.cur.recEpc, mcause := s.cur.recCause, mtval := s.cur.recTval
            mstatus := push s.cur.mstatus }
          ctrlWrites := [.mepc, .mcause, .mtval, .mstatus] } := by
  simp only [State.takeTrap, State.write, State.claim, Regs.putLatch, Regs.putTarget, Regs.putRedirect,
    Regs.putFlush, Regs.goTo]

/-- The first cycle of a return (R133), with every next value it writes. -/
theorem State.returnFromTrap_eq (s : State) :
    s.returnFromTrap
      = { s with
          nxt := { s.nxt with
            state := .setPc, flush := false, pcToSet := s.cur.mepc, mstatus := pop s.cur.mstatus }
          ctrlWrites := [.mstatus] } := by
  simp only [State.returnFromTrap, State.write, State.claim, Regs.putLatch, Regs.putTarget,
    Regs.putFlush, Regs.goTo]

/-- A trigger (R121, R122), with every next value it writes. -/
theorem State.trigger_eq (st : Ctl) (s : State) :
    s.trigger st = { s with nxt := { s.nxt with state := st, flush := true }, ctrlWrites := [] } := rfl

/-- An external write is the fault of R99 or writes one latch of the next values. -/
theorem State.externalWrite_cases (l : Latch) (v : Word) (s : State) :
    (l ∈ s.ctrlWrites ∧ s.externalWrite l v = { s with fault := some (.csrWriteConflict l) })
      ∨ (l ∉ s.ctrlWrites ∧ s.externalWrite l v = { s with nxt := s.nxt.putLatch l v }) := by
  unfold State.externalWrite
  split
  · exact .inl ⟨‹_›, rfl⟩
  · exact .inr ⟨‹_›, rfl⟩

/-- A latch read after a latch write: the value written, or the old one for every other latch. -/
theorem Regs.latch_putLatch (n : Regs) (l k : Latch) (v : Word) :
    (n.putLatch l v).latch k = if k = l then v else n.latch k := by
  cases l <;> cases k <;> rfl

/-- An edge leaves next values equal to current ones and no latch claimed (spec/10_state.md R47). -/
theorem State.clockEdge_settled (s : State) : s.clockEdge.nxt = s.clockEdge.cur ∧ s.clockEdge.ctrlWrites = [] :=
  ⟨rfl, rfl⟩

end Sys2Proof.Machine
end

