-- ==== Sys2Proof/Laws/PerInstr.lean ====
section
/-! SUPPORT. Per operation: the cycle that encodes it is named after it by the decoder (spec/30_encoding.md
R79 to R82, log entry 3). -/

namespace Sys2Proof.Laws

open Machine

/-- The cycle that an operation encodes to selects it and is named after it. -/
def RoundTrip.Statement (i : Instr) : Prop := i ∈ decode (encode i) ∧ principal (decode (encode i)) = some i

/-- The operations of a cycle given by its word and its data. -/
theorem decode_mk (cs : Selector) (d : Operands) :
    decode ⟨cs, d⟩
      = if cs.getLsbD 9 then [.reset]
        else requestOps (inputsOf ⟨cs, d⟩) ++ [evaluateOp (inputsOf ⟨cs, d⟩) (decodeCtl (stateField cs))]
          ++ externalOps (inputsOf ⟨cs, d⟩) := decode_word _

theorem RoundTrip.reset : RoundTrip.Statement .reset := by
  unfold RoundTrip.Statement; decide

theorem RoundTrip.reqExc (epc cause tval : Word) : RoundTrip.Statement (.reqExc epc cause tval) := by
  have h : decode (encode (.reqExc epc cause tval)) = [.reqExc epc cause tval, .evIdle] := by
    simp [encode, decode_mk, inputsOf, requestOps, evaluateOp, externalOps, stateField, decodeCtl]
  rw [RoundTrip.Statement, h]
  exact ⟨by simp, rfl⟩

theorem RoundTrip.reqRet : RoundTrip.Statement .reqRet := by
  unfold RoundTrip.Statement; decide

theorem RoundTrip.evTrap : RoundTrip.Statement .evTrap := by
  unfold RoundTrip.Statement; decide

theorem RoundTrip.evTrapReturn : RoundTrip.Statement .evTrapReturn := by
  unfold RoundTrip.Statement; decide

theorem RoundTrip.evIdle : RoundTrip.Statement .evIdle := by
  unfold RoundTrip.Statement; decide

theorem RoundTrip.evSetCsrJump (mtvec : Word) : RoundTrip.Statement (.evSetCsrJump mtvec) := by
  have h : decode (encode (.evSetCsrJump mtvec)) = [.evSetCsrJump mtvec] := by
    simp [encode, decode_mk, inputsOf, requestOps, evaluateOp, externalOps, stateField, decodeCtl]
  rw [RoundTrip.Statement, h]
  exact ⟨by simp, rfl⟩

theorem RoundTrip.evReturnFromTrap : RoundTrip.Statement .evReturnFromTrap := by
  unfold RoundTrip.Statement; decide

theorem RoundTrip.evSetPc : RoundTrip.Statement .evSetPc := by
  unfold RoundTrip.Statement; decide

/-- The cycle of an external write, in `Idle`. -/
theorem decode_external (l : Latch) (v : Word) :
    decode (encode (externalOp l v)) = [.evIdle, externalOp l v] := by
  cases l <;>
    simp [encode, externalOp, decode_mk, inputsOf, requestOps, evaluateOp, externalOps, stateField, decodeCtl,
      selectLatch]

theorem RoundTrip.extWrMepc (wdata : Word) : RoundTrip.Statement (.extWrMepc wdata) := by
  have h : decode (encode (.extWrMepc wdata)) = _ := decode_external .mepc wdata
  rw [RoundTrip.Statement, h]
  exact ⟨by simp [externalOp], rfl⟩

theorem RoundTrip.extWrMcause (wdata : Word) : RoundTrip.Statement (.extWrMcause wdata) := by
  have h : decode (encode (.extWrMcause wdata)) = _ := decode_external .mcause wdata
  rw [RoundTrip.Statement, h]
  exact ⟨by simp [externalOp], rfl⟩

theorem RoundTrip.extWrMtval (wdata : Word) : RoundTrip.Statement (.extWrMtval wdata) := by
  have h : decode (encode (.extWrMtval wdata)) = _ := decode_external .mtval wdata
  rw [RoundTrip.Statement, h]
  exact ⟨by simp [externalOp], rfl⟩

theorem RoundTrip.extWrMstatus (wdata : Word) : RoundTrip.Statement (.extWrMstatus wdata) := by
  have h : decode (encode (.extWrMstatus wdata)) = _ := decode_external .mstatus wdata
  rw [RoundTrip.Statement, h]
  exact ⟨by simp [externalOp], rfl⟩

end Sys2Proof.Laws
end

