-- ==== Sys2Proof/Laws/Reference.lean ====
section
/-! SUPPORT. The whole-cycle function of spec/42_evaluate.md R140, one equation per register. Later proofs
rewrite with the register they speak of and split no phase. -/

namespace Sys2Proof.Machine

/-- A cycle without a trigger: the branch of the current state runs (R124). -/
def branchRuns (i : Inputs) : Bool := !i.beginTrap && !i.beginTrapReturn

/-- Whether the cycle writes a latch from outside (R81). -/
def writesLatch (i : Inputs) (l : Latch) : Bool := i.extWe && selectLatch i.extSel == l

/-! Phase 3 writes latches and the mark only. -/

theorem referenceExternal_latch (i : Inputs) (n : Regs) (w : List Latch) (m : Option Fault) (l : Latch) :
    (referenceExternal i n w m).1.latch l
      = if writesLatch i l ∧ l ∉ w then i.data.wdata else n.latch l := by
  rcases Bool.eq_false_or_eq_true i.extWe with hw | hw
  · by_cases h : selectLatch i.extSel ∈ w
    · rw [if_neg (by rintro ⟨hl, hn⟩; simp only [writesLatch, hw, Bool.true_and, beq_iff_eq] at hl; exact hn (hl ▸ h))]
      simp [referenceExternal, hw, h]
    · simp only [referenceExternal, writesLatch, hw, if_true, h, if_false, Bool.true_and, beq_iff_eq]
      cases hl : selectLatch i.extSel <;> rw [hl] at h <;> cases l <;> simp [Regs.latch, h]
  · simp [referenceExternal, writesLatch, hw]

theorem referenceExternal_mark (i : Inputs) (n : Regs) (w : List Latch) (m : Option Fault) :
    (referenceExternal i n w m).2
      = if i.extWe = true ∧ selectLatch i.extSel ∈ w then some (.csrWriteConflict (selectLatch i.extSel))
        else m := by
  rcases Bool.eq_false_or_eq_true i.extWe with hw | hw
  · by_cases h : selectLatch i.extSel ∈ w
    · simp [referenceExternal, hw, h]
    · simp only [referenceExternal, hw, h, if_true, if_false, and_false]
      split <;> rfl
  · simp [referenceExternal, hw]

/-- The registers of phase 3 that are no latch. -/
theorem referenceExternal_others (i : Inputs) (n : Regs) (w : List Latch) (m : Option Fault) :
    (referenceExternal i n w m).1
      = { n with
          mepc := (referenceExternal i n w m).1.mepc, mcause := (referenceExternal i n w m).1.mcause
          mtval := (referenceExternal i n w m).1.mtval
          mstatus := (referenceExternal i n w m).1.mstatus } := by
  unfold referenceExternal
  split
  · dsimp only
    split
    · rfl
    · split <;> rfl
  · rfl

/-! Phase 1 writes the record and `state` only. -/

theorem referenceRequest_recEpc (i : Inputs) (n : Regs) :
    (referenceRequest i n).recEpc = if i.reqExc then i.data.epc else n.recEpc := by
  unfold referenceRequest
  split
  · rfl
  · split <;> rfl

theorem referenceRequest_recCause (i : Inputs) (n : Regs) :
    (referenceRequest i n).recCause = if i.reqExc then i.data.cause else n.recCause := by
  unfold referenceRequest
  split
  · rfl
  · split <;> rfl

theorem referenceRequest_recTval (i : Inputs) (n : Regs) :
    (referenceRequest i n).recTval = if i.reqExc then i.data.tval else n.recTval := by
  unfold referenceRequest
  split
  · rfl
  · split <;> rfl

theorem referenceRequest_state (i : Inputs) (n : Regs) :
    (referenceRequest i n).state
      = if i.reqExc then .setCSRJump else if i.reqRet then .returnFromTrap else n.state := by
  unfold referenceRequest
  split
  · rfl
  · split <;> rfl

theorem referenceRequest_others (i : Inputs) (n : Regs) :
    referenceRequest i n
      = { n with
          state := (referenceRequest i n).state, recEpc := (referenceRequest i n).recEpc
          recCause := (referenceRequest i n).recCause, recTval := (referenceRequest i n).recTval } := by
  unfold referenceRequest
  split
  · rfl
  · split <;> rfl

/-! Phase 2, from the current registers `c` and the next values `n`. -/

/-- The latches the evaluate row of the cycle writes (R139). -/
def rowWrites (i : Inputs) (st : Ctl) : List Latch :=
  if branchRuns i then
    match st with
    | .idle => []
    | .setCSRJump => [.mepc, .mcause, .mtval, .mstatus]
    | .returnFromTrap => [.mstatus]
    | .setPc => []
  else []

/-- The value that the evaluate row of the cycle gives a latch it writes. -/
def rowValue (c : Regs) : Latch → Word
  | .mepc => c.recEpc
  | .mcause => c.recCause
  | .mtval => c.recTval
  | .mstatus => if c.state = .setCSRJump then push c.mstatus else pop c.mstatus

/-- What a cycle without reset makes of `set_pc` or `rtpm`, which held `held`. -/
def redirectAfter (i : Inputs) (st : Ctl) (held : Bool) : Bool :=
  if branchRuns i then
    match st with
    | .idle => false
    | .setCSRJump => true
    | .returnFromTrap => held
    | .setPc => true
  else held

/-- What a cycle without reset makes of `state`, where the request phase left `requested`. -/
def stateAfter (i : Inputs) (st requested : Ctl) : Ctl :=
  if i.beginTrap then .setCSRJump
  else if i.beginTrapReturn then .returnFromTrap
  else
    match st with
    | .idle => requested
    | .setCSRJump => .idle
    | .returnFromTrap => .setPc
    | .setPc => .idle

/-- What a cycle without reset makes of `pc_to_set` (R117). -/
def targetAfter (i : Inputs) (c : Regs) : Word :=
  if branchRuns i then
    match c.state with
    | .idle => c.pcToSet
    | .setCSRJump => vectorAddress i.data.mtvec c.recCause
    | .returnFromTrap => c.mepc
    | .setPc => c.pcToSet
  else c.pcToSet

theorem referenceEvaluate_writes (i : Inputs) (c n : Regs) :
    (referenceEvaluate i c n).2 = rowWrites i c.state := by
  unfold referenceEvaluate rowWrites branchRuns
  rcases Bool.eq_false_or_eq_true i.beginTrap with hb | hb <;>
    rcases Bool.eq_false_or_eq_true i.beginTrapReturn with hr | hr <;>
    cases hs : c.state <;> simp [hb, hr]

theorem referenceEvaluate_state (i : Inputs) (c n : Regs) :
    (referenceEvaluate i c n).1.state = stateAfter i c.state n.state := by
  unfold referenceEvaluate stateAfter
  rcases Bool.eq_false_or_eq_true i.beginTrap with hb | hb <;>
    rcases Bool.eq_false_or_eq_true i.beginTrapReturn with hr | hr <;>
    cases hs : c.state <;> simp [hb, hr]

theorem referenceEvaluate_record (i : Inputs) (c n : Regs) :
    (referenceEvaluate i c n).1.recEpc = n.recEpc ∧ (referenceEvaluate i c n).1.recCause = n.recCause
      ∧ (referenceEvaluate i c n).1.recTval = n.recTval := by
  unfold referenceEvaluate 
  rcases Bool.eq_false_or_eq_true i.beginTrap with hb | hb <;>
    rcases Bool.eq_false_or_eq_true i.beginTrapReturn with hr | hr <;>
    cases hs : c.state <;> simp [hb, hr]

theorem referenceEvaluate_flush (i : Inputs) (c n : Regs) :
    (referenceEvaluate i c n).1.flush = (i.beginTrap || i.beginTrapReturn) := by
  unfold referenceEvaluate 
  rcases Bool.eq_false_or_eq_true i.beginTrap with hb | hb <;>
    rcases Bool.eq_false_or_eq_true i.beginTrapReturn with hr | hr <;>
    cases hs : c.state <;> simp [hb, hr]

theorem referenceEvaluate_setPc (i : Inputs) (c n : Regs) :
    (referenceEvaluate i c n).1.setPc = redirectAfter i c.state n.setPc := by
  unfold referenceEvaluate redirectAfter branchRuns
  rcases Bool.eq_false_or_eq_true i.beginTrap with hb | hb <;>
    rcases Bool.eq_false_or_eq_true i.beginTrapReturn with hr | hr <;>
    cases hs : c.state <;> simp [hb, hr]

theorem referenceEvaluate_rtpm (i : Inputs) (c n : Regs) :
    (referenceEvaluate i c n).1.rtpm = redirectAfter i c.state n.rtpm := by
  unfold referenceEvaluate redirectAfter branchRuns
  rcases Bool.eq_false_or_eq_true i.beginTrap with hb | hb <;>
    rcases Bool.eq_false_or_eq_true i.beginTrapReturn with hr | hr <;>
    cases hs : c.state <;> simp [hb, hr]

theorem referenceEvaluate_pcToSet (i : Inputs) (c n : Regs) (h : n.pcToSet = c.pcToSet) :
    (referenceEvaluate i c n).1.pcToSet = targetAfter i c := by
  unfold referenceEvaluate targetAfter branchRuns
  rcases Bool.eq_false_or_eq_true i.beginTrap with hb | hb <;>
    rcases Bool.eq_false_or_eq_true i.beginTrapReturn with hr | hr <;>
    cases hs : c.state <;> simp [hb, hr, h]

theorem referenceEvaluate_latch (i : Inputs) (c n : Regs) (l : Latch) :
    (referenceEvaluate i c n).1.latch l
      = if l ∈ rowWrites i c.state then rowValue c l else n.latch l := by
  unfold referenceEvaluate rowWrites branchRuns
  rcases Bool.eq_false_or_eq_true i.beginTrap with hb | hb <;>
    rcases Bool.eq_false_or_eq_true i.beginTrapReturn with hr | hr <;>
    cases hs : c.state <;> cases l <;> simp [hb, hr, hs, Regs.latch, rowValue]

/-! The registers after a cycle. -/

/-- R141 with reset. -/
theorem referenceCycle_state (i : Inputs) (c : Regs) (m : Option Fault) :
    (referenceCycle i c m).1.state = if i.rst then .idle
      else stateAfter i c.state
        (if i.reqExc then .setCSRJump else if i.reqRet then .returnFromTrap else c.state) := by
  unfold referenceCycle
  split
  · rfl
  · rw [referenceExternal_others]
    simp only [referenceEvaluate_state, referenceRequest_state]

theorem referenceCycle_recEpc (i : Inputs) (c : Regs) (m : Option Fault) :
    (referenceCycle i c m).1.recEpc = if i.rst then 0#32 else if i.reqExc then i.data.epc else c.recEpc := by
  unfold referenceCycle
  split
  · rfl
  · rw [referenceExternal_others]
    exact (referenceEvaluate_record ..).1.trans (referenceRequest_recEpc ..)

theorem referenceCycle_recCause (i : Inputs) (c : Regs) (m : Option Fault) :
    (referenceCycle i c m).1.recCause = if i.rst then 0#32 else if i.reqExc then i.data.cause else c.recCause := by
  unfold referenceCycle
  split
  · rfl
  · rw [referenceExternal_others]
    exact (referenceEvaluate_record ..).2.1.trans (referenceRequest_recCause ..)

theorem referenceCycle_recTval (i : Inputs) (c : Regs) (m : Option Fault) :
    (referenceCycle i c m).1.recTval = if i.rst then 0#32 else if i.reqExc then i.data.tval else c.recTval := by
  unfold referenceCycle
  split
  · rfl
  · rw [referenceExternal_others]
    exact (referenceEvaluate_record ..).2.2.trans (referenceRequest_recTval ..)

theorem referenceCycle_flush (i : Inputs) (c : Regs) (m : Option Fault) :
    (referenceCycle i c m).1.flush = if i.rst then false else i.beginTrap || i.beginTrapReturn := by
  unfold referenceCycle
  split
  · rfl
  · rw [referenceExternal_others]
    exact referenceEvaluate_flush ..

theorem referenceCycle_setPc (i : Inputs) (c : Regs) (m : Option Fault) :
    (referenceCycle i c m).1.setPc = if i.rst then false else redirectAfter i c.state c.setPc := by
  unfold referenceCycle
  split
  · rfl
  · rw [referenceExternal_others]
    refine (referenceEvaluate_setPc ..).trans ?_
    rw [referenceRequest_others]

theorem referenceCycle_rtpm (i : Inputs) (c : Regs) (m : Option Fault) :
    (referenceCycle i c m).1.rtpm = if i.rst then false else redirectAfter i c.state c.rtpm := by
  unfold referenceCycle
  split
  · rfl
  · rw [referenceExternal_others]
    refine (referenceEvaluate_rtpm ..).trans ?_
    rw [referenceRequest_others]

theorem referenceCycle_pcToSet (i : Inputs) (c : Regs) (m : Option Fault) :
    (referenceCycle i c m).1.pcToSet = if i.rst then 0#32 else targetAfter i c := by
  unfold referenceCycle
  split
  · rfl
  · rw [referenceExternal_others]
    refine referenceEvaluate_pcToSet _ _ _ ?_
    rw [referenceRequest_others]

/-- R116: the latches after a cycle. -/
theorem referenceCycle_latch (i : Inputs) (c : Regs) (m : Option Fault) (l : Latch) :
    (referenceCycle i c m).1.latch l
      = if i.rst then 0#32
        else if l ∈ rowWrites i c.state then rowValue c l
        else if writesLatch i l then i.data.wdata
        else c.latch l := by
  unfold referenceCycle
  split
  · cases l <;> rfl
  · have hreq : (referenceRequest i c).latch l = c.latch l := by
      rw [referenceRequest_others]
      cases l <;> rfl
    rw [referenceExternal_latch, referenceEvaluate_writes, referenceEvaluate_latch, hreq]
    by_cases hw : l ∈ rowWrites i c.state
    · rw [if_neg (fun h => h.2 hw), if_pos hw, if_pos hw]
    · rw [if_neg hw, if_neg hw]
      by_cases hl : writesLatch i l = true
      · rw [if_pos ⟨hl, hw⟩, if_pos hl]
      · rw [if_neg (fun h => hl h.1), if_neg hl]

theorem referenceCycle_mepc (i : Inputs) (c : Regs) (m : Option Fault) :
    (referenceCycle i c m).1.mepc
      = if i.rst then 0#32
        else if .mepc ∈ rowWrites i c.state then c.recEpc
        else if writesLatch i .mepc then i.data.wdata
        else c.mepc := referenceCycle_latch i c m .mepc

theorem referenceCycle_mcause (i : Inputs) (c : Regs) (m : Option Fault) :
    (referenceCycle i c m).1.mcause
      = if i.rst then 0#32
        else if .mcause ∈ rowWrites i c.state then c.recCause
        else if writesLatch i .mcause then i.data.wdata
        else c.mcause := referenceCycle_latch i c m .mcause

theorem referenceCycle_mtval (i : Inputs) (c : Regs) (m : Option Fault) :
    (referenceCycle i c m).1.mtval
      = if i.rst then 0#32
        else if .mtval ∈ rowWrites i c.state then c.recTval
        else if writesLatch i .mtval then i.data.wdata
        else c.mtval := referenceCycle_latch i c m .mtval

theorem referenceCycle_mstatus (i : Inputs) (c : Regs) (m : Option Fault) :
    (referenceCycle i c m).1.mstatus
      = if i.rst then 0#32
        else if .mstatus ∈ rowWrites i c.state then
          if c.state = .setCSRJump then push c.mstatus else pop c.mstatus
        else if writesLatch i .mstatus then i.data.wdata
        else c.mstatus := referenceCycle_latch i c m .mstatus

/-- R99: the fault mark after a cycle. -/
theorem referenceCycle_mark (i : Inputs) (c : Regs) (m : Option Fault) :
    (referenceCycle i c m).2
      = if i.rst then m
        else if i.extWe = true ∧ selectLatch i.extSel ∈ rowWrites i c.state then
          some (.csrWriteConflict (selectLatch i.extSel))
        else m := by
  unfold referenceCycle
  split
  · rfl
  · rw [referenceExternal_mark, referenceEvaluate_writes]

end Sys2Proof.Machine
end

