-- ==== Sys2Proof/Tests/Slice0.lean ====
section
/-! SUPPORT. The model's own tests. Expected results are the spec's: the vectors of
spec/95_test_vectors.md (named V-…) and the rows of spec/30_encoding.md. The second half gives, for every
statement with hypotheses, a concrete state and operands that meet them. -/

namespace Sys2Proof.Tests

open Sys2Proof Machine

/-- The next state of an outcome, where there is one. -/
def after : Host.Outcome State Fault Refusal → Option State
  | .next t => some t
  | .fault _ => none
  | .refused _ => none

/-- The cycle of one script line over the given registers, with `mtvec_i` = 0x1000. -/
def lineOver (r : Regs) (items : List Item) : State :=
  { State.reset with cur := r, nxt := r, script := [lineInputs 0x1000#32 items] }

/-- The `CS` word of a line, then the registers and the mark after its edge. -/
def edge (r : Regs) (items : List Item) : Selector × Option (Regs × Option Fault) :=
  ((lineOver r items).cycleWord.cs, (after (step (lineOver r items))).map fun t => (t.cur, t.fault))

/-! ## Well-formedness -/

/-- R78: two requests, no evaluate row, two evaluate rows, RESET in company, and a wrong order are refused. -/
theorem test_ill_formed_cycles :
    wfCycle [.reqExc 1 2 3, .reqRet, .evIdle] = false ∧ wfCycle [.reqRet] = false
    ∧ wfCycle [.extWrMepc 1] = false ∧ wfCycle [.evIdle, .evSetPc] = false
    ∧ wfCycle [.reset, .evIdle] = false ∧ wfCycle [.evIdle, .reqRet] = false
    ∧ wfCycle [.evIdle, .extWrMepc 1, .extWrMtval 2] = false ∧ wfCycle [] = false := by decide

/-- R78: RESET alone, and the longest cycle, are accepted. -/
theorem test_well_formed_cycles :
    wfCycle [.reset] = true ∧ wfCycle [.reqExc 1 2 3, .evSetPc, .extWrMstatus 4] = true := by decide

/-- R77: `CS` has ten bits. -/
theorem test_selector_bounds : wfBits 0x400 = false ∧ wfBits 0x3FF = true := by decide

/-! ## Decoding -/

/-- R82, R79: 10 0000 0000, 00 0010 0000 and 00 0001 0000. -/
theorem test_decode_reset_and_requests :
    decodeTableWord 16 0b1000000000 = some .reset
    ∧ decodeTableWord 16 0b0000100000 = some (.reqExc 0 0 0)
    ∧ decodeTableWord 16 0b0000010000 = some .reqRet := by decide

/-- R80: `begin_trap_i` is bit 3, `begin_trap_return_i` bit 2, the state bits 1:0. -/
theorem test_decode_evaluate :
    decodeTableWord 16 0b0000001000 = some .evTrap
    ∧ decodeTableWord 16 0b0000000100 = some .evTrapReturn
    ∧ decodeTableWord 16 0b0000000000 = some .evIdle
    ∧ decodeTableWord 16 0b0000000001 = some (.evSetCsrJump 0)
    ∧ decodeTableWord 16 0b0000000010 = some .evReturnFromTrap
    ∧ decodeTableWord 16 0b0000000011 = some .evSetPc := by decide

/-- R81: `ext_csr_we_i` is bit 6, `ext_csr_sel_i` bits 8:7. -/
theorem test_decode_external :
    decodeTableWord 16 0b0001000000 = some (.extWrMepc 0)
    ∧ decodeTableWord 16 0b0011000000 = some (.extWrMcause 0)
    ∧ decodeTableWord 16 0b0101000000 = some (.extWrMtval 0)
    ∧ decodeTableWord 16 0b0111000000 = some (.extWrMstatus 0) := by decide

/-- The words of V-EXT-12, V-EV-2, V-RQ-7 and V-RST-2 select whole cycles; 0x400 is no word. -/
theorem test_decode_cycles :
    decode ⟨0x1E0#10, ⟨0x200#32, 2#32, 0#32, 0x1000#32, 0x88#32⟩⟩
      = [.reqExc 0x200#32 2#32 0#32, .evIdle, .extWrMstatus 0x88#32]
    ∧ decode ⟨0x00F#10, zeroOperands⟩ = [.evTrap]
    ∧ decode ⟨0x030#10, zeroOperands⟩ = [.reqExc 0#32 0#32 0#32, .evIdle]
    ∧ decode ⟨0x3E1#10, zeroOperands⟩ = [.reset]
    ∧ decodeTableWord 16 0x400 = none := by decide

/-- A table word is run by the next step, as the first cycle after reset (V-RQ-1's word 0x020, V-EV-10's
0x003, and EV_SET_CSR_JUMP with the operands 0). -/
theorem test_fetch_runs_the_word :
    (State.reset.withFetchWord 16 0x020).operations = [.reqExc 0 0 0, .evIdle]
    ∧ (State.reset.withFetchWord 16 0x003).operations = [.evSetPc]
    ∧ (after (step (State.reset.withFetchWord 16 0x001))).map (fun t => t.cur)
        = some { Regs.reset with setPc := true, rtpm := true, pcToSet := 0x30#32 }
    ∧ State.reset.withFetchWord 16 0x400 = State.reset := by decide

/-! ## Datapath -/

/-- V-DP-1 to V-DP-8. -/
theorem test_vectors_in_the_table :
    vectorAddress 0x1000#32 0x80000000#32 = 0x1000#32
    ∧ vectorAddress 0x1000#32 0x8000000B#32 = 0x102C#32
    ∧ vectorAddress 0x1000#32 0x80000002#32 = 0x1008#32
    ∧ vectorAddress 0x1000#32 0x00000000#32 = 0x1030#32
    ∧ vectorAddress 0x1000#32 0x00000002#32 = 0x1038#32
    ∧ vectorAddress 0x1000#32 0x0000000A#32 = 0x1058#32
    ∧ vectorAddress 0x1000#32 0x0000000F#32 = 0x106C#32
    ∧ vectorAddress 0x1003#32 0x00000002#32 = 0x1038#32 := by decide

/-- V-DP-9 to V-DP-18. -/
theorem test_vectors_outside_and_wrapping :
    vectorAddress 0x1000#32 0x8000000C#32 = 0x1030#32
    ∧ vectorAddress 0x1000#32 0x80000017#32 = 0x105C#32
    ∧ vectorAddress 0x1000#32 0x00000010#32 = 0x1070#32
    ∧ vectorAddress 0x1000#32 0x40000002#32 = 0x1038#32
    ∧ vectorAddress 0x1000#32 0x7FFFFFFF#32 = 0x102C#32
    ∧ vectorAddress 0x1000#32 0xFFFFFFFF#32 = 0x0FFC#32
    ∧ vectorAddress 0xFFFFFFF0#32 0x0000000F#32 = 0x005C#32
    ∧ vectorAddress 0xFFFFFFFC#32 0x80000001#32 = 0x0000#32
    ∧ vectorAddress 0x00000000#32 0x00000000#32 = 0x0030#32
    ∧ vectorAddress 0x80000001#32 0x80000007#32 = 0x8000001C#32 := by decide

/-- V-DP-22 to V-DP-30, the columns push and pop. -/
theorem test_push_and_pop :
    ([0x00000000#32, 0x00000008#32, 0x00000080#32, 0x00000088#32, 0xFFFFFFFF#32, 0xFFFFFFF7#32,
        0xFFFFFF7F#32, 0x00001800#32, 0x00001808#32] : List Word).map (fun m => (push m, pop m))
      = [(0x00000000#32, 0x00000000#32), (0x00000080#32, 0x00000000#32), (0x00000000#32, 0x00000008#32),
          (0x00000080#32, 0x00000008#32), (0xFFFFFFF7#32, 0xFFFFFF7F#32), (0xFFFFFF77#32, 0xFFFFFF7F#32),
          (0xFFFFFFF7#32, 0xFFFFFF77#32), (0x00001800#32, 0x00001800#32),
          (0x00001880#32, 0x00001800#32)] := by decide

/-- The cause decoder's examples of spec/95_test_vectors.md, and one code of each class (R72). -/
theorem test_cause_fields :
    (isInterrupt 0x80000007#32, causeIndex 0x80000007#32) = (true, 7#32)
    ∧ (isInterrupt 0x00000002#32, causeIndex 0x00000002#32) = (false, 2#32)
    ∧ (isInterrupt 0xFFFFFFFF#32, causeIndex 0xFFFFFFFF#32) = (true, 0x7FFFFFFF#32)
    ∧ (isInterrupt 0x40000002#32, causeIndex 0x40000002#32) = (false, 0x40000002#32)
    ∧ causeClass 0x8000000B#32 = .defined ∧ causeClass 0x8000000A#32 = .reserved
    ∧ causeClass 0x8000000C#32 = .outside ∧ causeClass 0x0000000F#32 = .defined
    ∧ causeClass 0x0000000E#32 = .reserved ∧ causeClass 0x00000010#32 = .outside := by decide

/-! ## One cycle per operation -/

/-- Start state of V-RQ-2, V-EV-3, V-EXT-6. -/
def pendingEntry : Regs :=
  { Regs.reset with state := .setCSRJump, recEpc := 0x100#32, recCause := 0xB#32, mstatus := 0x8#32 }

/-- Start state of V-EXT-8, V-EXT-9, V-RQ-3. -/
def pendingReturn : Regs :=
  { Regs.reset with state := .returnFromTrap, mepc := 0x204#32, mstatus := 0x80#32 }

/-- What the entry from `pendingEntry` leaves. -/
def entered : Regs :=
  { Regs.reset with
    recEpc := 0x100#32, recCause := 0xB#32, setPc := true, pcToSet := 0x105C#32, rtpm := true
    mepc := 0x100#32, mcause := 0xB#32, mstatus := 0x80#32 }

/-- V-RQ-1. -/
theorem test_req_exc_from_idle :
    edge Regs.reset [.reqExc 0x200#32 2#32 0x13#32]
      = (0x020#10, some ({ Regs.reset with
          state := .setCSRJump, recEpc := 0x200#32, recCause := 2#32, recTval := 0x13#32 }, none)) := by decide

/-- V-RQ-2: the request is lost and its record is kept. -/
theorem test_req_exc_during_entry :
    edge pendingEntry [.reqExc 0x300#32 3#32 0x300#32]
      = (0x021#10, some ({ entered with
          recEpc := 0x300#32, recCause := 3#32, recTval := 0x300#32 }, none)) := by decide

/-- V-RQ-8. -/
theorem test_req_ret_from_idle :
    edge Regs.reset [.reqRet] = (0x010#10, some ({ Regs.reset with state := .returnFromTrap }, none)) := by
  decide

/-- V-RQ-9. -/
theorem test_req_ret_lost :
    edge { Regs.reset with state := .setPc, pcToSet := 0x204#32 } [.reqRet]
      = (0x013#10, some ({ Regs.reset with pcToSet := 0x204#32, setPc := true, rtpm := true }, none)) := by
  decide

/-- V-EV-1. -/
theorem test_trap_holds_set_pc :
    edge { Regs.reset with state := .setCSRJump, setPc := true } [.bt]
      = (0x009#10, some ({ Regs.reset with state := .setCSRJump, setPc := true, flush := true }, none)) := by
  decide

/-- V-EV-2: the entry trigger goes first. -/
theorem test_trap_precedes_return :
    edge { Regs.reset with state := .setPc } [.bt, .btr]
      = (0x00F#10, some ({ Regs.reset with state := .setCSRJump, flush := true }, none)) := by decide

/-- V-EV-3: the pending entry is discarded. -/
theorem test_trap_return_discards_entry :
    edge pendingEntry [.btr]
      = (0x005#10, some ({ pendingEntry with state := .returnFromTrap, flush := true }, none)) := by decide

/-- V-RQ-6: the return trigger beats the request. -/
theorem test_trap_return_beats_request :
    edge Regs.reset [.reqExc 0x200#32 2#32 0x13#32, .btr]
      = (0x024#10, some ({ Regs.reset with
          state := .returnFromTrap, recEpc := 0x200#32, recCause := 2#32, recTval := 0x13#32
          flush := true }, none)) := by decide

/-- V-EV-4. -/
theorem test_idle_clears_flags :
    edge { Regs.reset with flush := true, setPc := true, pcToSet := 0x1038#32, rtpm := true } []
      = (0x000#10, some ({ Regs.reset with pcToSet := 0x1038#32 }, none)) := by decide

/-- V-EV-6. -/
theorem test_set_csr_jump :
    edge { Regs.reset with
        state := .setCSRJump, recEpc := 0x200#32, recCause := 2#32, recTval := 0x13#32, mstatus := 0x8#32 } []
      = (0x001#10, some ({ Regs.reset with
          recEpc := 0x200#32, recCause := 2#32, recTval := 0x13#32, setPc := true, pcToSet := 0x1038#32
          rtpm := true, mepc := 0x200#32, mcause := 2#32, mtval := 0x13#32, mstatus := 0x80#32 },
          none)) := by decide

/-- V-EV-7, which drives `mtvec_i` = 0x80000001: operands alone, not the line helper. -/
theorem test_set_csr_jump_interrupt :
    (after (exec (.evSetCsrJump 0x80000001#32) { State.reset with
        cur := { Regs.reset with
          state := .setCSRJump, recEpc := 0x80000100#32, recCause := 0x80000007#32
          mstatus := 0x88#32 } })).map
        (fun t => (t.nxt.pcToSet, t.nxt.mepc, t.nxt.mcause, t.nxt.mtval, t.nxt.mstatus))
      = some (0x8000001C#32, 0x80000100#32, 0x80000007#32, 0x0#32, 0x80#32) := by decide

/-- V-EV-9: `set_pc` and `rtpm` hold. -/
theorem test_return_from_trap_holds_redirect :
    edge { pendingReturn with setPc := true, pcToSet := 0x1038#32, rtpm := true } []
      = (0x002#10, some ({ pendingReturn with
          state := .setPc, setPc := true, pcToSet := 0x204#32, rtpm := true, mstatus := 0x8#32 }, none)) := by
  decide

/-- V-EV-14: a misaligned `mepc` is passed on, and only MPIE is cleared. -/
theorem test_return_from_trap_misaligned :
    edge { Regs.reset with state := .returnFromTrap, mepc := 0x203#32, mstatus := 0xFFFFFFFF#32 } []
      = (0x002#10, some ({ Regs.reset with
          state := .setPc, pcToSet := 0x203#32, mepc := 0x203#32, mstatus := 0xFFFFFF7F#32 }, none)) := by
  decide

/-- V-EV-10. -/
theorem test_set_pc :
    edge { Regs.reset with state := .setPc, pcToSet := 0x204#32 } []
      = (0x003#10, some ({ Regs.reset with setPc := true, rtpm := true, pcToSet := 0x204#32 }, none)) := by
  decide

/-- V-EXT-1 and V-EXT-5. -/
theorem test_external_mepc :
    edge Regs.reset [.wr .mepc 0x204#32] = (0x040#10, some ({ Regs.reset with mepc := 0x204#32 }, none))
    ∧ edge Regs.reset [.wr .mepc 0x203#32]
        = (0x040#10, some ({ Regs.reset with mepc := 0x203#32 }, none)) := by decide

/-- V-EXT-6: the conflict, with the controller's value kept. -/
theorem test_external_mepc_conflict :
    edge pendingEntry [.wr .mepc 0x500#32]
      = (0x041#10, some (entered, some (.csrWriteConflict .mepc))) := by decide

/-- V-EXT-2. -/
theorem test_external_mcause :
    edge Regs.reset [.wr .mcause 0x8000000B#32]
      = (0x0C0#10, some ({ Regs.reset with mcause := 0x8000000B#32 }, none)) := by decide

/-- V-EXT-3. -/
theorem test_external_mtval :
    edge { Regs.reset with mtval := 0x13#32 } [.wr .mtval 0#32]
      = (0x140#10, some (Regs.reset, none)) := by decide

/-- V-EXT-4. -/
theorem test_external_mstatus :
    edge Regs.reset [.wr .mstatus 0x88#32]
      = (0x1C0#10, some ({ Regs.reset with mstatus := 0x88#32 }, none)) := by decide

/-- V-EXT-8 and V-EXT-9: in the return cycle `mstatus` conflicts, and `mepc` is written too late. -/
theorem test_external_in_return_cycle :
    edge pendingReturn [.wr .mstatus 0x8#32]
      = (0x1C2#10, some ({ pendingReturn with
          state := .setPc, pcToSet := 0x204#32, mstatus := 0x8#32 }, some (.csrWriteConflict .mstatus)))
    ∧ edge pendingReturn [.wr .mepc 0x208#32]
      = (0x042#10, some ({ pendingReturn with
          state := .setPc, pcToSet := 0x204#32, mepc := 0x208#32, mstatus := 0x8#32 }, none)) := by decide

/-- A start state in which every register differs from its reset value (V-RST-1's). -/
def occupied : Regs :=
  { state := .setCSRJump, recEpc := 0x200#32, recCause := 2#32, recTval := 0x13#32
    flush := true, setPc := true, pcToSet := 0x1038#32, rtpm := true
    mepc := 0x200#32, mcause := 2#32, mtval := 0x13#32, mstatus := 0x88#32 }

/-- V-RST-1 and V-RST-2: nothing else runs in a reset cycle. -/
theorem test_reset_clears_all :
    edge occupied [.rst] = (0x201#10, some (Regs.reset, none))
    ∧ edge pendingEntry [.rst, .reqExc 0x300#32 3#32 0#32, .wr .mstatus 0x88#32]
        = (0x3E1#10, some (Regs.reset, none)) := by decide

/-- V-RST-3: the mark stays. -/
theorem test_reset_keeps_mark :
    (after (step { lineOver { Regs.reset with state := .setCSRJump } [.rst] with
        fault := some (.csrWriteConflict .mepc) })).map (fun t => (t.cur, t.fault))
      = some (Regs.reset, some (.csrWriteConflict .mepc)) := by decide

/-- R88, R89: `.init`, `.mtvec` and the pseudo-operations INT and FTRAP give the cycles of P2 and V-HZ-1. -/
theorem test_script_notation :
    (loadScript ([.mtvec 0x80000001#32, .init .mstatus 0x88#32] ++ pseudoInt 7#31 0x80000100#32)).cur.mstatus
      = 0x88#32
    ∧ (loadScript ([.mtvec 0x80000001#32] ++ pseudoInt 7#31 0x80000100#32)).operations
      = [.reqExc 0x80000100#32 0x80000007#32 0#32, .evIdle]
    ∧ (loadScript (pseudoFtrap 2#32 0x200#32 0x13#32)).cycleWord.cs = 0x028#10
    ∧ (scriptInputs 0#32 (pseudoMret ++ pseudoIdle 2)).length = 5 := by decide

/-- The observation of V-HZ-1's first two cycles: `flush_o` alone, then the redirect and the latches. -/
theorem test_observation_of_trigger_entry :
    observeInputs
        [lineInputs 0x1000#32 [.reqExc 0x200#32 2#32 0x13#32, .bt], lineInputs 0x1000#32 []]
        (lineOver { Regs.reset with mstatus := 0x8#32 } [])
      = [(⟨true, false, 0#32, false, 0#32, 0#32, 0#32, 0x8#32⟩, none),
         (⟨false, true, 0x1038#32, true, 0x200#32, 2#32, 0x13#32, 0x80#32⟩, none)] := by decide

/-- R194: the marked run of V-EXT-6 satisfies no claim, and a run like V-EV-6's satisfies a true one. -/
theorem test_marked_run_satisfies_nothing :
    ¬ Satisfies (lineOver pendingEntry []) [lineInputs 0x1000#32 [.wr .mepc 0x500#32]] (fun _ => True)
    ∧ Satisfies (lineOver pendingEntry []) [lineInputs 0x1000#32 []]
        (fun os => os.map (fun o => o.1.pcToSet) = [0x105C#32]) := by
  unfold Satisfies
  decide

/-! ## Witnesses: the hypotheses of each statement can be met together

`W st items` is a cycle in state `st` over registers that all differ from their reset values. -/

/-- A cycle in state `st` over `occupied`. -/
def W (st : Ctl) (items : List Item) : State := lineOver (occupied.goTo st) items

/-- One input vector of a script line. -/
def input (items : List Item) : Inputs := lineInputs 0x80000003#32 items

/-- Several cycles from state `st` over `occupied`. -/
def Ws (st : Ctl) (lines : List (List Item)) : State :=
  { W st [] with script := lines.map input }

/-- A request with the largest operands. -/
def fullRequest : Item := .reqExc 0xFFFFFFFF#32 0xFFFFFFFF#32 0xFFFFFFFF#32

/-- The data-carrying extremes of an external write. -/
def fullWrite (l : Latch) : Item := .wr l 0xFFFFFFFF#32

theorem witness_ReqExcWritesRecordAndState :
    let s := W .idle [fullRequest]
    s.inputs.rst = false ∧ s.inputs.reqExc = true ∧ s.inputs.beginTrap = false
      ∧ s.inputs.beginTrapReturn = false ∧ s.cur.state = .idle := by decide

theorem witness_ReqRetForcesReturn :
    let s := W .idle [.reqRet]
    s.inputs.rst = false ∧ s.inputs.reqExc = false ∧ s.inputs.reqRet = true ∧ s.inputs.beginTrap = false
      ∧ s.inputs.beginTrapReturn = false ∧ s.cur.state = .idle ∧ s.inputs.extWe = false := by decide

theorem witness_ReqExcBeatsReqRet :
    ((inputsOf ⟨0x030#10, zeroOperands⟩).rst = false ∧ (inputsOf ⟨0x030#10, zeroOperands⟩).reqExc = true)
    ∧ (input [fullRequest, .reqRet]).reqExc = true
    ∧ (W .setPc [.bt]).inputs.rst = false ∧ (W .setPc [.bt]).inputs.reqExc = false
    ∧ (W .setPc [.bt]).inputs.reqRet = false := by decide

theorem witness_TrapTriggerForcesEntry :
    (let s := W .setPc [.bt, .btr];
      s.inputs.rst = false ∧ s.inputs.beginTrap = true ∧ s.inputs.reqExc = false ∧ s.inputs.extWe = false)
    ∧ (let s := W .returnFromTrap [.bt, fullRequest];
      s.inputs.rst = false ∧ s.inputs.beginTrap = true ∧ s.inputs.reqExc = true) := by decide

theorem witness_ReturnTriggerForcesReturn :
    let s := W .setCSRJump [.btr]
    s.inputs.rst = false ∧ s.inputs.beginTrap = false ∧ s.inputs.beginTrapReturn = true
      ∧ s.inputs.reqExc = false ∧ s.inputs.extWe = false := by decide

theorem witness_IdleDeassertsFlags :
    (let s := W .idle [];
      s.inputs.rst = false ∧ s.inputs.beginTrap = false ∧ s.inputs.beginTrapReturn = false
        ∧ s.cur.state = .idle ∧ s.inputs.reqExc = false ∧ s.inputs.reqRet = false ∧ s.inputs.extWe = false)
    ∧ (let s := W .idle [fullWrite .mstatus];
      s.inputs.rst = false ∧ s.inputs.beginTrap = false ∧ s.inputs.beginTrapReturn = false
        ∧ s.cur.state = .idle ∧ s.inputs.extWe = true) := by decide

/-- Without and with a conflict. -/
theorem witness_SetCsrJumpTakesTheTrap :
    ∀ items ∈ [[], [fullWrite .mcause]],
      let s := W .setCSRJump items
      s.inputs.rst = false ∧ s.inputs.beginTrap = false ∧ s.inputs.beginTrapReturn = false
        ∧ s.cur.state = .setCSRJump ∧ s.inputs.reqExc = false
        ∧ s.inputs.extWe = decide (items ≠ []) := by decide

theorem witness_ReturnFromTrapRestoresStatus :
    (let s := W .returnFromTrap [];
      s.inputs.rst = false ∧ s.inputs.beginTrap = false ∧ s.inputs.beginTrapReturn = false
        ∧ s.cur.state = .returnFromTrap ∧ s.inputs.reqExc = false ∧ s.inputs.extWe = false)
    ∧ (let s := W .returnFromTrap [fullWrite .mepc];
      s.inputs.rst = false ∧ s.inputs.beginTrap = false ∧ s.inputs.beginTrapReturn = false
        ∧ s.cur.state = .returnFromTrap ∧ s.inputs.extWe = true ∧ selectLatch s.inputs.extSel = .mepc)
    ∧ (let s := W .returnFromTrap [fullWrite .mstatus];
      s.inputs.rst = false ∧ s.inputs.beginTrap = false ∧ s.inputs.beginTrapReturn = false
        ∧ s.cur.state = .returnFromTrap ∧ s.inputs.extWe = true
        ∧ selectLatch s.inputs.extSel = .mstatus) := by decide

theorem witness_SetPcAssertsTheHeldRedirect :
    let s := W .setPc []
    s.inputs.rst = false ∧ s.inputs.beginTrap = false ∧ s.inputs.beginTrapReturn = false
      ∧ s.cur.state = .setPc ∧ s.inputs.reqExc = false ∧ s.inputs.extWe = false := by decide

/-- Every latch but `mstatus`, in the conflict cycle, in the return cycle and elsewhere. -/
theorem witness_ExternalWritesOfTrapFrame :
    ∀ l ∈ [Latch.mepc, .mcause, .mtval], ∀ st ∈ [Ctl.setCSRJump, .returnFromTrap, .idle],
      let s := W st [fullWrite l]
      s.inputs.rst = false ∧ s.inputs.extWe = true ∧ selectLatch s.inputs.extSel = l ∧ l ≠ .mstatus
        ∧ s.inputs.beginTrap = false ∧ s.inputs.beginTrapReturn = false ∧ s.cur.state = st := by decide

theorem witness_ExternalWriteOfStatus :
    ∀ st ∈ [Ctl.setCSRJump, .returnFromTrap, .setPc],
      let s := W st [fullWrite .mstatus]
      s.inputs.rst = false ∧ s.inputs.extWe = true ∧ selectLatch s.inputs.extSel = .mstatus
        ∧ s.cur.state = st := by decide

theorem witness_WriteConflictMarksTheRun :
    (writeConflict (W .setCSRJump [fullWrite .mtval]) = true
        ∧ (W .setCSRJump [fullWrite .mtval]).cur.state = .setCSRJump
        ∧ ∃ u, runFor 1 (W .setCSRJump [fullWrite .mtval]) = .next u)
    ∧ (writeConflict (W .returnFromTrap [fullWrite .mstatus]) = true
        ∧ (W .returnFromTrap [fullWrite .mstatus]).cur.state = .returnFromTrap)
    ∧ (let s := W .returnFromTrap [fullWrite .mcause];
        writeConflict s = false ∧ s.inputs.rst = false ∧ s.inputs.extWe = true) := by
  exact ⟨⟨rfl, rfl, ⟨_, rfl⟩⟩, ⟨rfl, rfl⟩, by decide⟩

/-- A reset held for two cycles, beside other inputs. -/
theorem witness_ResetFromAnyState :
    (bareCycle 0x200#10).cs &&& 0x200#10 = 0x200#10
    ∧ (let s := Ws .setPc [[.rst, .bt, fullWrite .mepc], [.rst]];
      s.inputs.rst = true ∧ (after (step s)).map (fun t => t.inputs.rst) = some true) := by decide

theorem witness_ResetStateIsQuiet :
    (Ws .setPc [[.rst], []]).script = input [.rst] :: input [] :: [] ∧ (input [.rst]).rst = true
      ∧ Quiet (input []) := by decide

/-- Cycles of one, two and three operations, and an operand at its bound in each phase. -/
theorem witness_StepRunsTheDecodedOperations :
    decode (W .setCSRJump []).cycleWord = [.evSetCsrJump 0x1000#32]
    ∧ decode (W .setPc [fullRequest]).cycleWord
      = [.reqExc 0xFFFFFFFF#32 0xFFFFFFFF#32 0xFFFFFFFF#32, .evSetPc]
    ∧ decode (W .returnFromTrap [.reqRet, fullWrite .mtval]).cycleWord
      = [.reqRet, .evReturnFromTrap, .extWrMtval 0xFFFFFFFF#32] := by decide

/-- Both triggers, one, and none. -/
theorem witness_EvaluateDispatch :
    (W .idle [.bt, .btr]).inputs.rst = false ∧ (W .idle [.btr]).inputs.rst = false
      ∧ (W .setPc [.reqRet]).inputs.rst = false := by decide

theorem witness_StateTransitionTable :
    (W .idle [.btr, fullRequest]).inputs.rst = false ∧ (W .setCSRJump [.reqRet]).inputs.rst = false := by
  decide

/-- Two states that differ in everything the step does not look at. -/
theorem witness_StepIsTotalAndDetermined :
    let s := W .setPc [.reqRet]
    let s' := { s with nxt := Regs.reset, ctrlWrites := [.mepc], script := s.script ++ [input []], tick := 7 }
    s.cur = s'.cur ∧ s.fault = s'.fault ∧ s.inputs = s'.inputs := by decide

theorem witness_LatchMultiplexer :
    (W .returnFromTrap [fullWrite .mstatus]).inputs.rst = false
      ∧ controllerWrites (W .returnFromTrap [fullWrite .mstatus]) = [.mstatus] := by decide

theorem witness_RedirectMultiplexer : (W .returnFromTrap [fullWrite .mepc]).inputs.rst = false := by decide

theorem witness_RecordWrittenByReqExcOnly :
    (W .setCSRJump [fullRequest]).inputs.rst = false ∧ (W .setCSRJump []).inputs.rst = false := by decide

/-- A cycle of a run, and an operation that writes registers behind the ports. -/
theorem witness_PortsObservedAfterEachEdge :
    (0 < 3 ∧ 2 < 3) ∧ ∃ t, exec (.evSetCsrJump 0xFFFFFFFF#32) (W .setCSRJump []) = .next t :=
  ⟨by decide, ⟨_, rfl⟩⟩

/-- Input vectors that differ in every data input not selected. -/
theorem witness_UnselectedDataIgnored :
    let i := { input [.reqRet] with extSel := 3#2, data := ⟨1#32, 2#32, 3#32, 0x1000#32, 5#32⟩ }
    let j := input [.reqRet]
    i ≠ j ∧ i.rst = j.rst ∧ i.beginTrap = j.beginTrap ∧ i.beginTrapReturn = j.beginTrapReturn
      ∧ i.reqExc = j.reqExc ∧ i.reqRet = j.reqRet ∧ i.extWe = j.extWe
      ∧ (i.reqExc = true →
          i.data.epc = j.data.epc ∧ i.data.cause = j.data.cause ∧ i.data.tval = j.data.tval)
      ∧ (i.beginTrap = false → i.beginTrapReturn = false → (W .setPc []).cur.state = .setCSRJump →
          i.data.mtvec = j.data.mtvec)
      ∧ (i.extWe = true → i.extSel = j.extSel ∧ i.data.wdata = j.data.wdata) := by decide

/-- A state that meets the invariant while a flag is asserted, and its successor. -/
theorem witness_StepKeepsControllerInvariant :
    ControllerInv (W .setCSRJump []) ∧ ∃ t, step (W .setCSRJump []) = .next t := by
  exact ⟨by decide, ⟨_, rfl⟩⟩

theorem witness_FaultMarkIsSticky :
    let s := { W .idle [.rst] with fault := some (.csrWriteConflict .mtval) }
    s.fault ≠ none ∧ (∃ t, step s = .next t) ∧ ∃ t, runFor 1 s = .next t := by
  exact ⟨by decide, ⟨_, rfl⟩, ⟨_, rfl⟩⟩

/-- The highest bit is in range, and so is the lowest. -/
theorem witness_BitHelpersActOnOneBit : (31 : Nat) < 32 ∧ (0 : Nat) < 32 := by decide

theorem witness_PushAndPopKeepOtherBits : (31 : Nat) ≠ 3 ∧ (31 : Nat) ≠ 7 ∧ (4 : Nat) ≠ 3 ∧ (4 : Nat) ≠ 7 := by
  decide

/-- The least interrupt and the greatest exception. -/
theorem witness_CauseFieldsAndRegionOffset :
    2 ^ 31 ≤ (0x80000000#32 : Word).toNat ∧ (0x7FFFFFFF#32 : Word).toNat < 2 ^ 31 := by decide

theorem witness_EntryTargetsAreAligned :
    (0xFFFFFFFF#32 : Word).toNat / 4 = (0xFFFFFFFC#32 : Word).toNat / 4 := by decide

/-- The first and the last slot of each region, and a code of the table. -/
theorem witness_VectorTableLayout :
    (0 < 12 ∧ 11 < 12) ∧ (0 < 16 ∧ 15 < 16) ∧ causeClass 0x8000000B#32 ≠ .outside
      ∧ causeClass 0x0000000E#32 ≠ .outside
      ∧ vectorAddress 0x1000#32 0x8000000B#32 = vectorAddress 0x1000#32 0x8000000B#32 := by decide

/-- The ends of each range of R110. -/
theorem witness_OutsideCodesTakeFormulaValue :
    (12 ≤ 12 ∧ 12 ≤ 23) ∧ (12 ≤ 23 ∧ 23 ≤ 23) ∧ 16 ≤ (16#31).toNat ∧ 16 ≤ (0x7FFFFFFF#31).toNat := by decide

theorem witness_DecodeEncodeCycle :
    wfCycle [.reqExc 0xFFFFFFFF#32 0xFFFFFFFF#32 0xFFFFFFFF#32, .evSetCsrJump 0xFFFFFFFF#32,
      .extWrMstatus 0xFFFFFFFF#32] = true := by decide

/-- Three cycles, from a state with every flag asserted. -/
theorem witness_IdleIsStable :
    (∀ k < 2 + 1, ∃ i, (Ws .idle [[], [], []]).script[k]? = some i ∧ Quiet i)
      ∧ (Ws .idle [[], [], []]).cur.state = .idle := by
  refine ⟨?_, by decide⟩
  intro k hk
  interval_cases k <;> exact ⟨_, rfl, by decide⟩

theorem witness_RequestEntryTakesTwoEdges :
    (Ws .idle [[fullRequest], [], []]).script = input [fullRequest] :: input [] :: input [] :: []
      ∧ OnlyReqExc (input [fullRequest]) ∧ Quiet (input [])
      ∧ (Ws .idle [[fullRequest], [], []]).cur.state = .idle := by decide

theorem witness_TriggerEntryFlushesThenRedirects :
    (Ws .setPc [[fullRequest, .bt], []]).script = input [fullRequest, .bt] :: input [] :: []
      ∧ ReqExcWithTrap (input [fullRequest, .bt]) ∧ Quiet (input []) := by decide

theorem witness_RequestReturnTakesThreeEdges :
    (Ws .idle [[.reqRet], [], []]).script = input [.reqRet] :: input [] :: input [] :: []
      ∧ OnlyReqRet (input [.reqRet]) ∧ Quiet (input [])
      ∧ (Ws .idle [[.reqRet], [], []]).cur.state = .idle := by decide

theorem witness_TriggerReturnFlushesThenRedirects :
    (Ws .setCSRJump [[.btr], [], []]).script = input [.btr] :: input [] :: input [] :: []
      ∧ OnlyTrapReturn (input [.btr]) ∧ Quiet (input []) := by decide

theorem witness_EntryThenReturnRoundTrip :
    (Ws .idle [[fullRequest], [], [.reqRet], [], []]).script
        = input [fullRequest] :: input [] :: input [.reqRet] :: input [] :: input [] :: []
      ∧ OnlyReqExc (input [fullRequest]) ∧ Quiet (input []) ∧ OnlyReqRet (input [.reqRet])
      ∧ (Ws .idle [[fullRequest], [], [.reqRet], [], []]).cur.state = .idle := by decide

/-- Each trigger held for three cycles, once beside requests. -/
theorem witness_HeldTriggerCommitsNothing :
    (let s := Ws .setPc [[.bt], [.bt, .btr], [.bt, fullRequest]];
      (∀ k < 2 + 1, ∃ i, s.script[k]? = some i ∧ i.rst = false ∧ i.beginTrap = true)
        ∧ ∀ k < 2 + 1, ∃ i, s.script[k]? = some i ∧ i.extWe = false)
    ∧ (let s := Ws .idle [[.btr], [.btr, .reqRet], [.btr]];
      (∀ k < 2 + 1, ∃ i, s.script[k]? = some i ∧ i.rst = false ∧ i.beginTrap = false
          ∧ i.beginTrapReturn = true)
        ∧ ∀ k < 2 + 1, ∃ i, s.script[k]? = some i ∧ i.extWe = false) := by
  refine ⟨⟨?_, ?_⟩, ⟨?_, ?_⟩⟩ <;> intro k hk <;> interval_cases k <;> exact ⟨_, rfl, by decide⟩

theorem witness_RequestPerformedIffAccepted :
    ((W .setPc [fullRequest]).inputs.rst = false ∧ (W .setPc [fullRequest]).inputs.reqExc = true
        ∧ requestAccepted (W .setPc [fullRequest]) = false)
    ∧ ((W .setPc [.reqRet, .btr]).inputs.rst = false ∧ (W .setPc [.reqRet, .btr]).inputs.reqExc = false
        ∧ (W .setPc [.reqRet, .btr]).inputs.reqRet = true
        ∧ requestAccepted (W .setPc [.reqRet, .btr]) = true) := by decide

theorem witness_TriggerCancelsPendingEntry :
    (Ws .setCSRJump [[.bt], []]).script = input [.bt] :: input [] :: []
      ∧ (Ws .setCSRJump [[.btr], []]).script = input [.btr] :: input [] :: []
      ∧ (Ws .setCSRJump [[.bt], []]).cur.state = .setCSRJump ∧ Quiet (input [])
      ∧ OnlyTrap (input [.bt]) ∧ OnlyTrapReturn (input [.btr]) := by decide

/-- The record that reset leaves, for the last clause. -/
theorem witness_StaleRecordIsConsumedAgain :
    let i := lineInputs 0#32 [.bt]
    let j := lineInputs 0#32 []
    (loadScript [.cycle [.bt], .cycle []]).script = i :: j :: [] ∧ OnlyTrap i ∧ Quiet j
      ∧ (loadScript [.cycle [.bt], .cycle []]).cur.recCause = 0#32 := by decide

theorem witness_LateRecordMissesTheEntry :
    (Ws .idle [[.bt], [fullRequest]]).script = input [.bt] :: input [fullRequest] :: []
      ∧ OnlyTrap (input [.bt]) ∧ OnlyReqExc (input [fullRequest]) := by decide

theorem witness_EarliestReturnAfterEntry :
    (Ws .idle [[fullRequest], [.reqRet], []]).script
        = input [fullRequest] :: input [.reqRet] :: input [] :: []
      ∧ (Ws .idle [[fullRequest], [], [.reqRet]]).script
        = input [fullRequest] :: input [] :: input [.reqRet] :: []
      ∧ OnlyReqExc (input [fullRequest]) ∧ OnlyReqRet (input [.reqRet]) ∧ Quiet (input [])
      ∧ (Ws .idle [[fullRequest], [.reqRet], []]).cur.state = .idle := by decide

theorem witness_ReturnTargetWriteWindow :
    let i := input [.reqRet, fullWrite .mepc]
    let j := input [fullWrite .mepc]
    (Ws .idle [[.reqRet, fullWrite .mepc], [fullWrite .mepc]]).script = i :: j :: []
      ∧ (Ws .idle [[.reqRet, fullWrite .mepc], [fullWrite .mepc]]).cur.state = .idle
      ∧ Asserts i false false false false true true ∧ selectLatch i.extSel = .mepc
      ∧ Asserts j false false false false false true ∧ selectLatch j.extSel = .mepc := by decide

theorem witness_StatusWrittenInTriggerCycleIsUsed :
    (let i := input [.bt, .btr, fullWrite .mstatus];
      (Ws .setPc [[.bt, .btr, fullWrite .mstatus], []]).script = i :: input [] :: [] ∧ Quiet (input [])
        ∧ i.extWe = true ∧ selectLatch i.extSel = .mstatus ∧ i.rst = false ∧ i.beginTrap = true)
    ∧ (let i := input [.btr, fullWrite .mstatus];
      (Ws .setPc [[.btr, fullWrite .mstatus], []]).script = i :: input [] :: []
        ∧ i.extWe = true ∧ selectLatch i.extSel = .mstatus ∧ i.rst = false ∧ i.beginTrap = false
        ∧ i.beginTrapReturn = true) := by decide

theorem witness_RedirectHeldOverFourEdges :
    (Ws .idle [[fullRequest], [], [.btr], [], []]).script
        = input [fullRequest] :: input [] :: input [.btr] :: input [] :: input [] :: []
      ∧ OnlyReqExc (input [fullRequest]) ∧ Quiet (input []) ∧ OnlyTrapReturn (input [.btr])
      ∧ (Ws .idle [[fullRequest], [], [.btr], [], []]).cur.state = .idle := by decide

theorem witness_NestedEntryLosesTheFirst :
    (Ws .idle [[fullRequest], [], [fullRequest], []]).script
        = input [fullRequest] :: input [] :: input [fullRequest] :: input [] :: []
      ∧ OnlyReqExc (input [fullRequest]) ∧ Quiet (input [])
      ∧ (Ws .idle [[fullRequest], [], [fullRequest], []]).cur.state = .idle := by decide

end Sys2Proof.Tests
end

section
/-! PROOFS. What the bit helpers of R16 read and change, bit by bit, and the obligation that says so (O31).
Each update is a mask with one bit at the index; the lemmas about that mask come first. -/

namespace Sys2Proof.Machine

/-- The shifted bit that `putBit` writes: the given bit at the index, 0 everywhere else. -/
theorem getLsbD_zeroExtend_shiftLeft (b : BitVec 1) (i : Nat) {j : Nat} (hj : j < 32) :
    (b.zeroExtend 32 <<< i).getLsbD j = if j = i then b.getLsbD 0 else false := by
  rcases Nat.lt_trichotomy j i with below | rfl | above
  · simp [below, below.ne]
  · simp [hj]
  · have past : 1 ≤ j - i := by omega
    simp [above.ne', past]

/-- The mask of `setBit` and `clearBit`: 1 at the index, 0 everywhere else. -/
theorem getLsbD_one_shiftLeft (i : Nat) {j : Nat} (hj : j < 32) :
    (1#32 <<< i).getLsbD j = decide (j = i) := by
  have h := getLsbD_zeroExtend_shiftLeft 1#1 i hj
  simpa using h

@[simp] theorem getBit_getLsbD_zero (v : Word) (i : Nat) : (getBit v i).getLsbD 0 = v.getLsbD i := by
  simp [getBit]

@[simp] theorem setBit_getLsbD (v : Word) (i : Nat) {j : Nat} (hj : j < 32) :
    (setBit v i).getLsbD j = if j = i then true else v.getLsbD j := by
  rw [setBit, BitVec.getLsbD_or, getLsbD_one_shiftLeft i hj]
  by_cases h : j = i <;> simp [h]

@[simp] theorem clearBit_getLsbD (v : Word) (i : Nat) {j : Nat} (hj : j < 32) :
    (clearBit v i).getLsbD j = if j = i then false else v.getLsbD j := by
  rw [clearBit, BitVec.getLsbD_and, BitVec.getLsbD_not, getLsbD_one_shiftLeft i hj]
  by_cases h : j = i <;> simp [h, hj]

@[simp] theorem putBit_getLsbD (v : Word) (i : Nat) (b : BitVec 1) {j : Nat} (hj : j < 32) :
    (putBit v i b).getLsbD j = if j = i then b.getLsbD 0 else v.getLsbD j := by
  rw [putBit, BitVec.getLsbD_or, clearBit_getLsbD v i hj, getLsbD_zeroExtend_shiftLeft b i hj]
  by_cases h : j = i <;> simp [h]

/-- Settles O31: the four helpers bit by bit. -/
theorem bitHelpersActOnOneBit : Obligations.BitHelpersActOnOneBit := by
  unfold Obligations.BitHelpersActOnOneBit
  intro v i j b hj
  exact ⟨getBit_getLsbD_zero v i, setBit_getLsbD v i hj, clearBit_getLsbD v i hj, putBit_getLsbD v i b hj⟩

end Sys2Proof.Machine
end

section
/-! PROOFS. The state after a cycle is the whole-cycle function of spec/42_evaluate.md R140, register by
register through the equations of Laws/Reference; and a run is the cycle iterated. The proofs after this
section start from these facts and follow no phase of a cycle again. -/

namespace Sys2Proof.Machine

/-! ## One cycle -/

/-- What a cycle leaves, in terms of R140: the three phases in order, or RESET alone. -/
theorem afterCycle_eq (s : State) :
    afterCycle s =
      { cur := (referenceCycle s.inputs s.cur s.fault).1
        nxt := (referenceCycle s.inputs s.cur s.fault).1
        fault := (referenceCycle s.inputs s.cur s.fault).2
        ctrlWrites := []
        script := s.script.tail
        tick := s.tick + 1 } := by
  rw [afterCycle, operations_eq, referenceCycle]
  split
  case isTrue => rfl
  case isFalse =>
    have evaluate := evaluate_phase s.inputs (s.beginCycle.write (referenceRequest s.inputs))
    simp only [State.write_cur, State.beginCycle_cur] at evaluate
    simp only [List.foldl_append, request_phase, List.foldl_cons, List.foldl_nil, evaluate,
      external_phase]
    rfl

@[simp] theorem afterCycle_cur (s : State) :
    (afterCycle s).cur = (referenceCycle s.inputs s.cur s.fault).1 := by rw [afterCycle_eq]
@[simp] theorem afterCycle_fault (s : State) :
    (afterCycle s).fault = (referenceCycle s.inputs s.cur s.fault).2 := by rw [afterCycle_eq]
@[simp] theorem afterCycle_script (s : State) : (afterCycle s).script = s.script.tail := by
  rw [afterCycle_eq]
@[simp] theorem afterCycle_tick (s : State) : (afterCycle s).tick = s.tick + 1 := by rw [afterCycle_eq]

/-- The only state a step can answer. -/
theorem eq_afterCycle_of_step {s t : State} (h : step s = .next t) : t = afterCycle s :=
  (Host.Outcome.next.inj ((step_eq s).symm.trans h)).symm

/-- The inputs of a cycle that the script fixes. -/
theorem State.inputs_of_script {s : State} {i : Inputs} {is : List Inputs} (h : s.script = i :: is) :
    s.inputs = i := by
  rw [State.inputs, h]

/-- The inputs of a cycle depend on the model's own environment fields alone (log entry 2). -/
theorem State.inputs_congr {s s' : State} (script : s'.script = s.script) (tick : s'.tick = s.tick) :
    s'.inputs = s.inputs := by
  rw [State.inputs, State.inputs, script, tick]

/-- R170: a reset cycle gives every register its reset value and keeps the mark. -/
theorem referenceCycle_of_rst {i : Inputs} (h : i.rst = true) (c : Regs) (m : Option Fault) :
    referenceCycle i c m = (Regs.reset, m) := by
  rw [referenceCycle, if_pos h]

/-- R127, R128: a cycle of `Idle` without inputs deasserts the three flags and does nothing else. -/
theorem referenceCycle_quiet_idle {i : Inputs} (quiet : Quiet i) {c : Regs} (idle : c.state = .idle)
    (m : Option Fault) :
    referenceCycle i c m = ({ c with rtpm := false, setPc := false, flush := false }, m) := by
  obtain ⟨hrst, hbt, hbtr, hre, hrr, hwe⟩ := quiet
  simp [referenceCycle, referenceRequest, referenceEvaluate, referenceExternal, hrst, hbt, hbtr, hre, hrr,
    hwe, idle]

/-- The operation of a cycle of `Idle` without inputs (R80). -/
theorem operations_quiet_idle {s : State} (quiet : Quiet s.inputs) (idle : s.cur.state = .idle) :
    s.operations = [.evIdle] := by
  obtain ⟨hrst, hbt, hbtr, hre, hrr, hwe⟩ := quiet
  simp [operations_eq, requestOps, evaluateOp, externalOps, hrst, hbt, hbtr, hre, hrr, hwe, idle]

/-! ## Runs -/

/-- A run is the cycle iterated; it always completes (R144). -/
theorem runFor_eq (n : Nat) (s : State) : runFor n s = .next (afterCycle^[n] s) := by
  induction n generalizing s with
  | zero => rfl
  | succ n ih => rw [runFor_succ, ih, Function.iterate_succ_apply]

/-- The only state a run can end in. -/
theorem eq_iterate_of_runFor {n : Nat} {s t : State} (h : runFor n s = .next t) : t = afterCycle^[n] s :=
  (Host.Outcome.next.inj ((runFor_eq n s).symm.trans h)).symm

/-- A relation between two states that every cycle keeps holds between the ends of two runs. -/
theorem iterate_afterCycle_related {R : State → State → Prop}
    (keeps : ∀ s s', R s s' → R (afterCycle s) (afterCycle s')) (n : Nat) {s s' : State} (h : R s s') :
    R (afterCycle^[n] s) (afterCycle^[n] s') := by
  induction n generalizing s s' with
  | zero => exact h
  | succ n ih => exact ih (keeps s s' h)

/-- R142: the observation of a run is that of its states, each after its edge. -/
theorem observeRun_eq (n : Nat) (s : State) :
    observeRun n s = (List.range n).map fun k => (afterCycle^[k + 1] s).observe := by
  induction n generalizing s with
  | zero => rfl
  | succ n ih =>
    rw [observeRun_succ, ih, List.range_succ_eq_map, List.map_cons, List.map_map]
    rfl

end Sys2Proof.Machine
end

section
/-! PROOFS. What a cycle makes of the ports and of the pending trap record, and which data inputs it reads
(spec/10_state.md R23 to R28, R36 to R48): O14, O22, O23, O24, O25, O60. -/

namespace Sys2Proof.Machine

/-! ## The redirect multiplexer -/

/-- A trigger keeps the state branch from running (R125). -/
theorem branchRuns_eq_false_iff (i : Inputs) :
    branchRuns i = false ↔ i.beginTrap = true ∨ i.beginTrapReturn = true := by
  unfold branchRuns
  cases i.beginTrap <;> simp

/-- Settles O22: with a trigger the redirect registers hold, else the branch of the state says. -/
theorem redirectMultiplexer : Obligations.RedirectMultiplexer := by
  unfold Obligations.RedirectMultiplexer
  intro s hrst
  refine ⟨_, step_eq s, ?_⟩
  simp only [RedirectKept, afterCycle_cur, referenceCycle_setPc, referenceCycle_rtpm,
    referenceCycle_pcToSet, hrst, ← branchRuns_eq_false_iff, redirectAfter, targetAfter]
  cases branchRuns s.inputs
  case false => simp
  case true => cases hs : s.cur.state <;> simp

/-! ## `flush` and the record -/

/-- Settles O23: every evaluate row but the triggers' deasserts `flush`, and so does RESET. -/
theorem flushExactlyAfterTriggers : Obligations.FlushExactlyAfterTriggers := by
  unfold Obligations.FlushExactlyAfterTriggers
  intro s
  refine ⟨_, step_eq s, ?_⟩
  rw [afterCycle_cur, referenceCycle_flush]
  cases s.inputs.rst <;> simp

/-- Settles O24: the request phase writes the record, and no later phase does. -/
theorem recordWrittenByReqExcOnly : Obligations.RecordWrittenByReqExcOnly := by
  unfold Obligations.RecordWrittenByReqExcOnly
  intro s hrst
  refine ⟨_, step_eq s, ?_⟩
  simp only [RecordKept, afterCycle_cur, referenceCycle_recEpc, referenceCycle_recCause,
    referenceCycle_recTval, hrst]
  cases s.inputs.reqExc <;> simp

/-! ## Which data inputs a cycle reads -/

/-- Phase 1 reads the request data only with `req_exc_i` (R36). -/
theorem referenceRequest_congr {i j : Inputs} (reqExc : i.reqExc = j.reqExc) (reqRet : i.reqRet = j.reqRet)
    (data : i.reqExc = true →
      i.data.epc = j.data.epc ∧ i.data.cause = j.data.cause ∧ i.data.tval = j.data.tval) :
    referenceRequest i = referenceRequest j := by
  funext n
  rw [referenceRequest, referenceRequest, ← reqExc, ← reqRet]
  split
  case isTrue requested =>
    obtain ⟨epc, cause, tval⟩ := data requested
    rw [epc, cause, tval]
  case isFalse => rfl

/-- Phase 2 reads `mtvec_i` only in the branch of `SetCSRJump` (R38). -/
theorem referenceEvaluate_congr {i j : Inputs} {c : Regs} (beginTrap : i.beginTrap = j.beginTrap)
    (beginTrapReturn : i.beginTrapReturn = j.beginTrapReturn)
    (mtvec : i.beginTrap = false → i.beginTrapReturn = false → c.state = .setCSRJump →
      i.data.mtvec = j.data.mtvec) (n : Regs) :
    referenceEvaluate i c n = referenceEvaluate j c n := by
  rw [referenceEvaluate, referenceEvaluate, ← beginTrap, ← beginTrapReturn]
  cases hb : i.beginTrap
  case true => rfl
  case false =>
    cases hr : i.beginTrapReturn
    case true => rfl
    case false =>
      cases hs : c.state
      case setCSRJump => rw [mtvec hb hr hs]
      all_goals rfl

/-- Phase 3 reads the select and the data only with `ext_csr_we_i` (R101). -/
theorem referenceExternal_congr {i j : Inputs} (extWe : i.extWe = j.extWe)
    (port : i.extWe = true → i.extSel = j.extSel ∧ i.data.wdata = j.data.wdata)
    (n : Regs) (w : List Latch) (m : Option Fault) :
    referenceExternal i n w m = referenceExternal j n w m := by
  rw [referenceExternal, referenceExternal, ← extWe]
  cases hw : i.extWe
  case false => rfl
  case true =>
    obtain ⟨sel, wdata⟩ := port hw
    rw [sel, wdata]

/-- Settles O25: no phase reads a data input that its operation does not name. -/
theorem unselectedDataIgnored : Obligations.UnselectedDataIgnored := by
  unfold Obligations.UnselectedDataIgnored
  intro s i j is rst beginTrap beginTrapReturn reqExc reqRet extWe data mtvec port
  have same : referenceCycle i s.cur s.fault = referenceCycle j s.cur s.fault := by
    simp only [referenceCycle, rst, referenceRequest_congr reqExc reqRet data,
      referenceEvaluate_congr beginTrap beginTrapReturn mtvec, referenceExternal_congr extWe port]
  refine ⟨_, step_eq _, ?_⟩
  rw [step_eq, afterCycle_eq, afterCycle_eq]
  simp only [State.inputs, same, List.tail_cons]

/-! ## Reset and the ports -/

/-- Settles O14: the cycle after a reset is a quiet cycle of `Idle` with the flags at 0 already. -/
theorem resetStateIsQuiet : Obligations.ResetStateIsQuiet := by
  unfold Obligations.ResetStateIsQuiet
  refine ⟨rfl, rfl, ?_⟩
  intro s i j is script hrst quiet
  have cycle : referenceCycle s.inputs s.cur s.fault = (Regs.reset, s.fault) := by
    rw [State.inputs_of_script script, referenceCycle_of_rst hrst]
  have cur : (afterCycle s).cur = Regs.reset := by rw [afterCycle_cur, cycle]
  have mark : (afterCycle s).fault = s.fault := by rw [afterCycle_fault, cycle]
  have inputs : (afterCycle s).inputs = j :=
    State.inputs_of_script (is := is) (by rw [afterCycle_script, script, List.tail_cons])
  have idle : (afterCycle s).cur.state = .idle := by rw [cur]; rfl
  refine ⟨_, _, step_eq s, step_eq _, cur, mark, operations_quiet_idle (inputs ▸ quiet) idle, ?_, ?_⟩
  · rw [State.observe, State.outputs, cur, mark]
    rfl
  · rw [afterCycle_cur, inputs, referenceCycle_quiet_idle quiet idle, cur]
    rfl

/-- Settles O60: operations write no current value, so the ports change at edges only. -/
theorem portsObservedAfterEachEdge : Obligations.PortsObservedAfterEachEdge := by
  unfold Obligations.PortsObservedAfterEachEdge
  refine ⟨fun _ => rfl, ?_, ?_⟩
  · intro op s t h
    rw [exec_eq, Host.Outcome.next.injEq] at h
    rw [← h, State.outputs, effect_cur, State.outputs]
  · intro n s
    refine ⟨by simp [observeRun_eq], fun k hk => ⟨_, runFor_eq (k + 1) s, ?_⟩⟩
    simp [observeRun_eq, hk]

end Sys2Proof.Machine
end

section
/-! PROOFS. What every cycle keeps: the controller invariant, the fault mark, and the isolation of `mcause`
and `mtval` (spec/10_state.md R31, R32, R44, R47): O26, O27, O28, O30. -/

namespace Sys2Proof.Machine

/-! ## The controller invariant -/

/-- A trigger forces one of the two pending states (R121, R122). -/
theorem stateAfter_of_trigger {i : Inputs} (h : i.beginTrap = true ∨ i.beginTrapReturn = true)
    (st requested : Ctl) :
    stateAfter i st requested = .setCSRJump ∨ stateAfter i st requested = .returnFromTrap := by
  unfold stateAfter
  cases hb : i.beginTrap
  case true => exact .inl rfl
  case false =>
    have hr : i.beginTrapReturn = true := by simpa [hb] using h
    simp [hr]

/-- Every cycle leaves next values settled (R47). -/
theorem afterCycle_settled (s : State) : Settled (afterCycle s) := State.clockEdge_settled _

/-- `set_pc` and `rtpm` go through the same multiplexer (R139). -/
theorem afterCycle_redirectPaired {s : State} (h : RedirectPaired s) : RedirectPaired (afterCycle s) := by
  rw [RedirectPaired, afterCycle_cur, referenceCycle_setPc, referenceCycle_rtpm, h]

/-- `flush` comes from a trigger of the cycle, whatever the state before it was. -/
theorem afterCycle_flushOnlyPending (s : State) : FlushOnlyPending (afterCycle s) := by
  rw [FlushOnlyPending, afterCycle_cur, referenceCycle_flush, referenceCycle_state]
  intro flush
  split at flush
  case isTrue => cases flush
  case isFalse noReset =>
    rw [if_neg noReset]
    exact stateAfter_of_trigger ((Bool.or_eq_true ..).mp flush) _ _

/-- Settles O26: the three properties, each kept by a cycle for its own reason. -/
theorem stepKeepsControllerInvariant : Obligations.StepKeepsControllerInvariant := by
  unfold Obligations.StepKeepsControllerInvariant
  rintro s t ⟨-, paired, -⟩ h
  rw [eq_afterCycle_of_step h]
  exact ⟨afterCycle_settled s, afterCycle_redirectPaired paired, afterCycle_flushOnlyPending s⟩

/-- Settles O27. -/
theorem resetMeetsControllerInvariant : Obligations.ResetMeetsControllerInvariant := by
  unfold Obligations.ResetMeetsControllerInvariant
  exact ⟨⟨rfl, rfl⟩, rfl, fun flush => absurd flush Bool.false_ne_true⟩

/-! ## The fault mark -/

/-- The latches of R99 are those that the evaluate row of the cycle writes. -/
theorem controllerWrites_eq {s : State} (h : s.inputs.rst = false) :
    controllerWrites s = rowWrites s.inputs s.cur.state := by
  unfold controllerWrites rowWrites branchRuns
  rw [h]
  cases s.inputs.beginTrap <;> cases s.inputs.beginTrapReturn <;> rfl

/-- The mark after a cycle: a write conflict's, or the old one. -/
theorem afterCycle_mark (s : State) :
    (afterCycle s).fault
      = if writeConflict s then some (.csrWriteConflict (selectLatch s.inputs.extSel)) else s.fault := by
  rw [afterCycle_fault, referenceCycle_mark, writeConflict]
  cases hr : s.inputs.rst
  case true => simp
  case false => simp [controllerWrites_eq hr]

/-- No cycle clears the mark, a reset cycle included (C10). -/
theorem afterCycle_keeps_mark (s : State) (h : s.fault ≠ none) : (afterCycle s).fault ≠ none := by
  rw [afterCycle_mark]
  split
  · exact Option.some_ne_none _
  · exact h

/-- Settles O28: the last clause by iterating `afterCycle_keeps_mark`. -/
theorem faultMarkIsSticky : Obligations.FaultMarkIsSticky := by
  unfold Obligations.FaultMarkIsSticky
  refine ⟨rfl, ?_, ?_⟩
  · intro s t h
    rw [eq_afterCycle_of_step h, afterCycle_mark]
  · intro n s t h marked
    rw [eq_iterate_of_runFor h]
    exact Function.Iterate.rec (fun u : State => u.fault ≠ none) marked afterCycle_keeps_mark n

/-! ## `mcause` and `mtval` are write-only -/

/-- Registers are equal when each of the twelve is. -/
theorem Regs.ext_registers {a b : Regs} (state : a.state = b.state) (recEpc : a.recEpc = b.recEpc)
    (recCause : a.recCause = b.recCause) (recTval : a.recTval = b.recTval) (flush : a.flush = b.flush)
    (setPc : a.setPc = b.setPc) (pcToSet : a.pcToSet = b.pcToSet) (rtpm : a.rtpm = b.rtpm)
    (mepc : a.mepc = b.mepc) (mcause : a.mcause = b.mcause) (mtval : a.mtval = b.mtval)
    (mstatus : a.mstatus = b.mstatus) : a = b := by
  cases a
  cases b
  simp_all

/-- The registers, with other values in `mcause` and `mtval`. -/
def Regs.withCauseAndValue (c : Regs) (cause value : Word) : Regs :=
  { c with mcause := cause, mtval := value }

/-- One cycle over other values of `mcause` and `mtval` differs in these two latches at most. -/
theorem referenceCycle_withCauseAndValue (i : Inputs) (c : Regs) (m : Option Fault) (cause value : Word) :
    ∃ cause' value',
      (referenceCycle i (c.withCauseAndValue cause value) m).1
        = (referenceCycle i c m).1.withCauseAndValue cause' value' := by
  refine ⟨_, _, Regs.ext_registers ?_ ?_ ?_ ?_ ?_ ?_ ?_ ?_ ?_ rfl rfl ?_⟩
  all_goals
    simp only [Regs.withCauseAndValue, referenceCycle_state, referenceCycle_recEpc, referenceCycle_recCause,
      referenceCycle_recTval, referenceCycle_flush, referenceCycle_setPc, referenceCycle_pcToSet,
      referenceCycle_rtpm, referenceCycle_mepc, referenceCycle_mstatus, targetAfter]

/-- Two states that agree in all that a run of the block reads, but for `mcause` and `mtval`. -/
def AgreeButCauseAndValue (s s' : State) : Prop :=
  (∃ cause value, s'.cur = s.cur.withCauseAndValue cause value)
    ∧ s'.fault = s.fault ∧ s'.script = s.script ∧ s'.tick = s.tick

/-- Every cycle keeps the agreement: it reads neither latch. -/
theorem afterCycle_keeps_agreement (s s' : State) (h : AgreeButCauseAndValue s s') :
    AgreeButCauseAndValue (afterCycle s) (afterCycle s') := by
  obtain ⟨⟨cause, value, cur⟩, mark, script, tick⟩ := h
  refine ⟨?_, ?_, ?_, ?_⟩
  · rw [afterCycle_cur, afterCycle_cur, State.inputs_congr script tick, cur, mark]
    exact referenceCycle_withCauseAndValue ..
  · rw [afterCycle_fault, afterCycle_fault, State.inputs_congr script tick, cur, mark,
      referenceCycle_mark, referenceCycle_mark]
    rfl
  · rw [afterCycle_script, afterCycle_script, script]
  · rw [afterCycle_tick, afterCycle_tick, tick]

/-- Settles O30, by induction on the number of cycles over the agreement of the two runs. -/
theorem causeAndValueLatchesNeverRead : Obligations.CauseAndValueLatchesNeverRead := by
  unfold Obligations.CauseAndValueLatchesNeverRead
  intro n s c v
  have start : AgreeButCauseAndValue s { s with cur := { s.cur with mcause := c, mtval := v } } :=
    ⟨⟨c, v, rfl⟩, rfl, rfl, rfl⟩
  obtain ⟨⟨cause, value, cur⟩, mark, -, -⟩ :=
    iterate_afterCycle_related afterCycle_keeps_agreement n start
  refine ⟨_, _, runFor_eq n s, runFor_eq n _, ?_, mark⟩
  rw [cur]
  rfl

end Sys2Proof.Machine
end

section
/-! PROOFS. The trap-vector table in the address space (spec/20_memory.md R53, R57; spec/41_datapath.md R105
to R110): O38, O39. Each part of the address is said as a number, and the address of an encoded cause
as a sum of words; the obligations follow from these two forms. -/

namespace Sys2Proof.Machine

/-! ## The parts of a vector address -/

/-- The base is `mtvec` rounded down to a multiple of 4 (R57). -/
theorem vectorBase_toNat (mtvec : Word) : (vectorBase mtvec).toNat = 4 * (mtvec.toNat / 4) := by
  have shifted : vectorBase mtvec = mtvec >>> 2 <<< 2 := by
    rw [BitVec.shiftLeft_ushiftRight]
    rfl
  have bound := mtvec.isLt
  rw [shifted, BitVec.toNat_shiftLeft, BitVec.toNat_ushiftRight, Nat.shiftLeft_eq, Nat.shiftRight_eq_div_pow]
  omega

/-- The top bit tells an interrupt (R105). -/
theorem isInterrupt_eq_true_iff (c : Word) : isInterrupt c = true ↔ 2 ^ 31 ≤ c.toNat := by
  rw [isInterrupt, ← BitVec.msb_eq_getLsbD_last c, BitVec.msb_eq_decide, decide_eq_true_iff]

/-- The index is the other 31 bits (R105). -/
theorem causeIndex_toNat (c : Word) : (causeIndex c).toNat = c.toNat % 2 ^ 31 := by
  rw [causeIndex, BitVec.zeroExtend, BitVec.toNat_setWidth_of_le (by decide), BitVec.extractLsb'_toNat,
    Nat.shiftRight_zero]

/-- The interrupts' region comes first, the exceptions' at 0x30 = 48 (R106). -/
theorem regionOffset_toNat (c : Word) : (regionOffset c).toNat = if 2 ^ 31 ≤ c.toNat then 0 else 48 := by
  simp only [regionOffset, ← isInterrupt_eq_true_iff]
  cases isInterrupt c <;> rfl

/-- The address as arithmetic modulo 2^32 (R108), for every code, in the table or not (R110). -/
theorem vectorAddress_toNat (mtvec c : Word) :
    (vectorAddress mtvec c).toNat
      = (4 * (mtvec.toNat / 4) + (if 2 ^ 31 ≤ c.toNat then 0 else 48) + 4 * (c.toNat % 2 ^ 31)) % 2 ^ 32 := by
  rw [vectorAddress, BitVec.toNat_add, BitVec.toNat_add, vectorBase_toNat, regionOffset_toNat,
    BitVec.toNat_shiftLeft, causeIndex_toNat, Nat.shiftLeft_eq, ← Nat.add_mod, Nat.mul_comm _ (2 ^ 2)]

/-! ## The codes of the table -/

/-- Decoding gives back the flag that was encoded (R71). -/
@[simp] theorem isInterrupt_encodeCause (b : Bool) (k : BitVec 31) : isInterrupt (encodeCause b k) = b := by
  simp [isInterrupt, encodeCause]

/-- Decoding gives back the index that was encoded (R71). -/
@[simp] theorem causeIndex_encodeCause (b : Bool) (k : BitVec 31) :
    causeIndex (encodeCause b k) = k.zeroExtend 32 := by
  ext j hj
  by_cases below : j < 31
  · simp [causeIndex, encodeCause, below, hj]
  · simp [causeIndex, below, BitVec.getLsbD_of_ge k j (by omega)]

/-- The address of an encoded cause: the region of the flag, and 4 bytes for each index (R106, R108). -/
theorem vectorAddress_encodeCause (mtvec : Word) (b : Bool) (k : BitVec 31) :
    vectorAddress mtvec (encodeCause b k)
      = vectorBase mtvec + (bif b then 0x00000000#32 else 0x00000030#32) + 4#32 * k.zeroExtend 32 := by
  rw [vectorAddress, regionOffset, isInterrupt_encodeCause, causeIndex_encodeCause,
    BitVec.shiftLeft_eq_mul_twoPow, BitVec.mul_comm]
  rfl

/-- The offset of slot `n` within its region, computed in 32 bits. -/
theorem four_mul_zeroExtend_ofNat {n : Nat} (h : n < 2 ^ 31) :
    4#32 * (BitVec.ofNat 31 n).zeroExtend 32 = BitVec.ofNat 32 (4 * n) := by
  rw [BitVec.ofNat_mul, BitVec.zeroExtend, BitVec.setWidth_ofNat_of_le_of_lt (by decide) h]

/-- The table has the 12 least interrupts and the 16 least exceptions (R69, R70, R72). -/
theorem causeClass_ne_outside_iff (c : Word) :
    causeClass c ≠ .outside ↔ (2 ^ 31 ≤ c.toNat ∧ c.toNat < 2 ^ 31 + 12) ∨ c.toNat < 16 := by
  have flag := isInterrupt_eq_true_iff c
  simp only [causeClass, causeIndex_toNat, List.mem_cons, List.not_mem_nil, or_false]
  cases h : isInterrupt c
  case false =>
    have exception : c.toNat < 2 ^ 31 := by simpa [h] using flag
    rw [Nat.mod_eq_of_lt exception]
    split_ifs <;> simp <;> omega
  case true =>
    have interrupt : 2 ^ 31 ≤ c.toNat := flag.mp h
    have index : c.toNat % 2 ^ 31 = c.toNat - 2 ^ 31 := by
      have bound := c.isLt
      omega
    rw [index]
    split_ifs <;> simp <;> omega

/-! ## The obligations -/

/-- Settles O38: base, region offset and shifted index are multiples of 4, and so is 2^32; of `mtvec` the
address uses the quotient by 4 only. -/
theorem entryTargetsAreAligned : Obligations.EntryTargetsAreAligned := by
  unfold Obligations.EntryTargetsAreAligned
  intro mtvec c
  constructor
  · rw [vectorAddress_toNat]
    split <;> omega
  · intro mtvec' sameBase
    apply BitVec.eq_of_toNat_eq
    rw [vectorAddress_toNat, vectorAddress_toNat, sameBase]

/-- Settles O39: the slots are the formula at the codes of the table; the table spans 28 * 4 < 2^32 bytes, so
the formula does not wrap round onto a slot already taken. -/
theorem vectorTableLayout : Obligations.VectorTableLayout := by
  unfold Obligations.VectorTableLayout
  refine ⟨?_, ?_, ?_⟩
  · intro mtvec i hi
    rw [vectorAddress_encodeCause, four_mul_zeroExtend_ofNat (by omega), cond_true, BitVec.add_zero]
  · intro mtvec e he
    rw [vectorAddress_encodeCause, four_mul_zeroExtend_ofNat (by omega), cond_false]
  · intro mtvec c d hc hd same
    rw [causeClass_ne_outside_iff] at hc hd
    have sameAddress := congrArg BitVec.toNat same
    rw [vectorAddress_toNat, vectorAddress_toNat] at sameAddress
    apply BitVec.eq_of_toNat_eq
    split_ifs at sameAddress <;> omega

end Sys2Proof.Machine
end

section
/-! PROOFS. The encodings of spec/30_encoding.md: the cause code (R71), the cycle-selector word of a whole
cycle (R77 to R82) and the words written out from its tables: O36, O41, O42, O43. A cycle word is the join of
the words of its operations; each group's rows read fields that no other group's operations assert, so
each group is decoded as if its own operations stood alone. -/

namespace Sys2Proof

open Machine

/-! ## Cause codes -/

/-- The encoder puts the two fields of a code back where the decoder found them (R68, R71). -/
theorem encodeCause_isInterrupt_extractLsb' (c : Word) :
    encodeCause (isInterrupt c) (c.extractLsb' 0 31) = c := by
  ext j hj
  by_cases below : j < 31
  · simp [encodeCause, below, hj]
  · obtain rfl : j = 31 := by omega
    simp [encodeCause, isInterrupt]

/-- Settles O36: the decoder's flag and index of an encoded code are laws of the vector table's proofs. -/
theorem causeCodecRoundTrip : Obligations.CauseCodecRoundTrip := by
  unfold Obligations.CauseCodecRoundTrip
  exact ⟨encodeCause_isInterrupt_extractLsb',
    fun b k => ⟨isInterrupt_encodeCause b k, causeIndex_encodeCause b k⟩⟩

/-! ## The shape of a cycle -/

/-- No operation, or a single one of the given group (R78). -/
def AtMostOneOf (g : Group) (ops : List Instr) : Prop := ops = [] ∨ ∃ op, ops = [op] ∧ op.group = g

/-- The operations of one group. -/
def ofGroup (g : Group) (ops : List Instr) : List Instr := ops.filter fun op => op.group == g

theorem ofGroup_append (g : Group) (as bs : List Instr) :
    ofGroup g (as ++ bs) = ofGroup g as ++ ofGroup g bs := List.filter_append ..

/-- Such a list holds all of its group and nothing of another. -/
theorem AtMostOneOf.ofGroup_eq {g : Group} {ops : List Instr} (h : AtMostOneOf g ops) (other : Group) :
    ofGroup other ops = if g = other then ops else [] := by
  rcases h with rfl | ⟨op, rfl, hop⟩
  · simp [ofGroup]
  · simp [ofGroup, hop, List.filter_singleton]

/-- RESET is the only operation of its group (R82). -/
theorem Instr.group_eq_reset_iff (op : Instr) : op.group = .reset ↔ op = .reset := by
  cases op <;> simp [Instr.group]

/-- R78, R80: a well-formed cycle is RESET alone, or its three groups in phase order. -/
theorem wfCycle_iff (ops : List Instr) :
    wfCycle ops = true ↔ ops = [.reset] ∨ ∃ requests evaluate externals,
      ops = requests ++ [evaluate] ++ externals ∧ AtMostOneOf .request requests
        ∧ evaluate.group = .evaluate ∧ AtMostOneOf .external externals := by
  constructor
  · intro wf
    unfold wfCycle at wf
    split at wf
    next groups =>
      obtain ⟨op, rfl, hop⟩ := List.map_eq_singleton_iff.mp groups
      exact .inl (by rw [(Instr.group_eq_reset_iff op).mp hop])
    next groups =>
      obtain ⟨e, rfl, he⟩ := List.map_eq_singleton_iff.mp groups
      exact .inr ⟨[], e, [], rfl, .inl rfl, he, .inl rfl⟩
    next groups =>
      obtain ⟨r, _, rfl, hr, rest⟩ := List.map_eq_cons_iff.mp groups
      obtain ⟨e, rfl, he⟩ := List.map_eq_singleton_iff.mp rest
      exact .inr ⟨[r], e, [], rfl, .inr ⟨r, rfl, hr⟩, he, .inl rfl⟩
    next groups =>
      obtain ⟨e, _, rfl, he, rest⟩ := List.map_eq_cons_iff.mp groups
      obtain ⟨x, rfl, hx⟩ := List.map_eq_singleton_iff.mp rest
      exact .inr ⟨[], e, [x], rfl, .inl rfl, he, .inr ⟨x, rfl, hx⟩⟩
    next groups =>
      obtain ⟨r, _, rfl, hr, rest⟩ := List.map_eq_cons_iff.mp groups
      obtain ⟨e, _, rfl, he, rest⟩ := List.map_eq_cons_iff.mp rest
      obtain ⟨x, rfl, hx⟩ := List.map_eq_singleton_iff.mp rest
      exact .inr ⟨[r], e, [x], rfl, .inr ⟨r, rfl, hr⟩, he, .inr ⟨x, rfl, hx⟩⟩
    next => cases wf
  · rintro (rfl | ⟨_, e, _, rfl, rfl | ⟨r, rfl, hr⟩, he, rfl | ⟨x, rfl, hx⟩⟩)
    · rfl
    all_goals simp [wfCycle, *]

/-- A cycle without reset selects at most one request (R79). -/
theorem requestOps_atMostOneOf (i : Inputs) : AtMostOneOf .request (requestOps i) := by
  unfold requestOps
  cases i.reqExc
  case true => exact .inr ⟨_, rfl, rfl⟩
  case false =>
    cases i.reqRet
    case true => exact .inr ⟨_, rfl, rfl⟩
    case false => exact .inl rfl

/-- A cycle without reset selects at most one external write (R81). -/
theorem externalOps_atMostOneOf (i : Inputs) : AtMostOneOf .external (externalOps i) := by
  have group := externalOps_group i
  unfold externalOps at group ⊢
  cases hwe : i.extWe
  case true => exact .inr ⟨_, rfl, group _ (by simp [hwe])⟩
  case false => exact .inl rfl

/-- Settles O41: the three groups of a cycle without reset are in order, and the evaluate row is not RESET. -/
theorem everyWordSelectsOneCycle : Obligations.EveryWordSelectsOneCycle := by
  unfold Obligations.EveryWordSelectsOneCycle
  intro w
  have rst : (inputsOf w).rst = w.cs.getLsbD 9 := rfl
  rw [wfCycle_iff, decode_word, rst]
  cases w.cs.getLsbD 9
  case true => simp
  case false =>
    have row := evaluateOp_group (inputsOf w) (decodeCtl (stateField w.cs))
    refine ⟨.inr ⟨_, _, _, rfl, requestOps_atMostOneOf _, row, externalOps_atMostOneOf _⟩,
      fun resetAlone => ?_, fun h => absurd h Bool.false_ne_true⟩
    have rowIsReset : evaluateOp (inputsOf w) (decodeCtl (stateField w.cs)) = .reset :=
      List.mem_singleton.mp (resetAlone ▸ by simp)
    rw [rowIsReset] at row
    cases row

/-! ## Joining cycles -/

/-- The cycle that asserts nothing adds nothing. -/
@[simp] theorem CycleWord.bareCycle_join (w : CycleWord) : (bareCycle 0#10).join w = w := by
  simp [CycleWord.join, bareCycle, zeroOperands]

theorem CycleWord.join_comm (a b : CycleWord) : a.join b = b.join a := by
  simp only [CycleWord.join, BitVec.or_comm]

theorem CycleWord.join_assoc (a b c : CycleWord) : (a.join b).join c = a.join (b.join c) := by
  simp only [CycleWord.join, BitVec.or_assoc]

@[simp] theorem encodeCycle_nil : encodeCycle [] = bareCycle 0#10 := rfl

@[simp] theorem encodeCycle_cons (op : Instr) (ops : List Instr) :
    encodeCycle (op :: ops) = (encode op).join (encodeCycle ops) := rfl

theorem encodeCycle_singleton (op : Instr) : encodeCycle [op] = encode op := by
  rw [encodeCycle_cons, encodeCycle_nil, CycleWord.join_comm, CycleWord.bareCycle_join]

theorem encodeCycle_append (as bs : List Instr) :
    encodeCycle (as ++ bs) = (encodeCycle as).join (encodeCycle bs) := by
  induction as with
  | nil => simp
  | cons op as ih => rw [List.cons_append, encodeCycle_cons, encodeCycle_cons, ih, CycleWord.join_assoc]

/-- The order of the operations does not matter to the encoder. -/
theorem encodeCycle_perm {as bs : List Instr} (h : as.Perm bs) : encodeCycle as = encodeCycle bs := by
  induction h with
  | nil => rfl
  | cons op _ ih => rw [encodeCycle_cons, encodeCycle_cons, ih]
  | swap op op' ops =>
    simp only [encodeCycle_cons, ← CycleWord.join_assoc, CycleWord.join_comm (encode op')]
  | trans _ _ ih ih' => rw [ih, ih']

/-- The state fields of joined cycles are joined. -/
@[simp] theorem stateField_join (a b : CycleWord) :
    stateField (a.join b).cs = stateField a.cs ||| stateField b.cs :=
  BitVec.extractLsb'_or

/-- The inputs of joined cycles are joined one by one. -/
theorem inputsOf_join (a b : CycleWord) :
    inputsOf (a.join b) =
      { rst := (inputsOf a).rst || (inputsOf b).rst
        beginTrap := (inputsOf a).beginTrap || (inputsOf b).beginTrap
        beginTrapReturn := (inputsOf a).beginTrapReturn || (inputsOf b).beginTrapReturn
        reqExc := (inputsOf a).reqExc || (inputsOf b).reqExc
        reqRet := (inputsOf a).reqRet || (inputsOf b).reqRet
        extWe := (inputsOf a).extWe || (inputsOf b).extWe
        extSel := (inputsOf a).extSel ||| (inputsOf b).extSel
        data := (a.join b).data } := by
  simp only [inputsOf, CycleWord.join, BitVec.getLsbD_or, BitVec.extractLsb'_or]

/-! ## What each group reads of a cycle word -/

/-- The evaluate row that a word selects when it does not select RESET (R80). -/
def evaluateOf (w : CycleWord) : Instr := evaluateOp (inputsOf w) (decodeCtl (stateField w.cs))

/-- Only evaluate rows name a state (R79 to R82). -/
theorem stateField_encode {op : Instr} (h : op.group ≠ .evaluate) : stateField (encode op).cs = 0#2 := by
  cases op
  case reset | reqExc | reqRet | extWrMepc | extWrMcause | extWrMtval | extWrMstatus =>
    simp [encode, bareCycle, stateField]
  all_goals exact absurd rfl h

/-- A function of cycle words for which operations outside the group make no difference. -/
def ReadsOnly {α : Type} (g : Group) (f : CycleWord → α) : Prop :=
  ∀ op w, op.group ≠ g → f ((encode op).join w) = f w

theorem readsOnly_reset : ReadsOnly .reset fun w => (inputsOf w).rst := by
  intro op w other
  simp only [inputsOf_join]
  cases op
  case reset => exact absurd rfl other
  all_goals simp [encode, bareCycle, inputsOf]

theorem readsOnly_request : ReadsOnly .request fun w => requestOps (inputsOf w) := by
  intro op w other
  simp only [inputsOf_join]
  cases op
  case reqExc | reqRet => exact absurd rfl other
  all_goals simp [encode, bareCycle, inputsOf, requestOps, zeroOperands, CycleWord.join]

theorem readsOnly_evaluate : ReadsOnly .evaluate evaluateOf := by
  intro op w other
  simp only [evaluateOf, inputsOf_join, stateField_join, stateField_encode other, BitVec.zero_or]
  cases op
  case reset | reqExc | reqRet | extWrMepc | extWrMcause | extWrMtval | extWrMstatus =>
    simp [encode, bareCycle, inputsOf, evaluateOp, zeroOperands, CycleWord.join]
  all_goals exact absurd rfl other

theorem readsOnly_external : ReadsOnly .external fun w => externalOps (inputsOf w) := by
  intro op w other
  simp only [inputsOf_join]
  cases op
  case extWrMepc | extWrMcause | extWrMtval | extWrMstatus => exact absurd rfl other
  all_goals simp [encode, bareCycle, inputsOf, externalOps, zeroOperands, CycleWord.join]

/-- Operations outside the group make no difference, however many are joined. -/
theorem ReadsOnly.encodeCycle_join {α : Type} {g : Group} {f : CycleWord → α} (reads : ReadsOnly g f)
    {ops : List Instr} (other : ∀ op ∈ ops, op.group ≠ g) (w : CycleWord) :
    f ((encodeCycle ops).join w) = f w := by
  induction ops with
  | nil => simp
  | cons op ops ih =>
    rw [List.forall_mem_cons] at other
    rw [encodeCycle_cons, CycleWord.join_assoc, reads op _ other.1, ih other.2]

/-- Of a cycle, the group's own operations are all that is read, wherever they stand. -/
theorem ReadsOnly.encodeCycle_eq {α : Type} {g : Group} {f : CycleWord → α} (reads : ReadsOnly g f)
    (ops : List Instr) : f (encodeCycle ops) = f (encodeCycle (ofGroup g ops)) := by
  have reorder := List.filter_append_perm (fun op : Instr => !(op.group == g)) ops
  rw [← encodeCycle_perm reorder, encodeCycle_append, reads.encodeCycle_join (by simp)]
  simp only [Bool.not_not, ofGroup]

/-! ## Each group decodes its own operations -/

/-- R82: a cycle without the operation RESET does not assert the reset input. -/
theorem rst_encodeCycle {ops : List Instr} (h : ofGroup .reset ops = []) :
    (inputsOf (encodeCycle ops)).rst = false := by
  rw [readsOnly_reset.encodeCycle_eq ops, h]
  rfl

/-- R79 undoes the encoding of the request. -/
theorem requestOps_encodeCycle {ops requests : List Instr} (h : ofGroup .request ops = requests)
    (one : AtMostOneOf .request requests) : requestOps (inputsOf (encodeCycle ops)) = requests := by
  rw [readsOnly_request.encodeCycle_eq ops, h]
  rcases one with rfl | ⟨op, rfl, hop⟩
  · decide
  · rw [encodeCycle_singleton]
    cases op
    case reqExc | reqRet => simp [encode, bareCycle, inputsOf, requestOps]
    all_goals cases hop

/-- R80 undoes the encoding of the evaluate row. -/
theorem evaluateOf_encodeCycle {ops : List Instr} {op : Instr} (h : ofGroup .evaluate ops = [op])
    (hop : op.group = .evaluate) : evaluateOf (encodeCycle ops) = op := by
  rw [readsOnly_evaluate.encodeCycle_eq ops, h, encodeCycle_singleton]
  cases op
  case evTrap | evTrapReturn | evIdle | evSetCsrJump | evReturnFromTrap | evSetPc =>
    simp [encode, bareCycle, inputsOf, evaluateOf, evaluateOp, stateField, decodeCtl]
  all_goals cases hop

/-- R81 undoes the encoding of the external write. -/
theorem externalOps_encodeCycle {ops externals : List Instr} (h : ofGroup .external ops = externals)
    (one : AtMostOneOf .external externals) : externalOps (inputsOf (encodeCycle ops)) = externals := by
  rw [readsOnly_external.encodeCycle_eq ops, h]
  rcases one with rfl | ⟨op, rfl, hop⟩
  · decide
  · rw [encodeCycle_singleton]
    cases op
    case extWrMepc | extWrMcause | extWrMtval | extWrMstatus =>
      simp [encode, inputsOf, externalOps, externalOp, selectLatch]
    all_goals cases hop

/-- A cycle of the three groups decodes to itself, each group by its own rows. -/
theorem decode_encodeCycle_append {requests externals : List Instr} {evaluate : Instr}
    (hr : AtMostOneOf .request requests) (he : evaluate.group = .evaluate)
    (hx : AtMostOneOf .external externals) :
    decode (encodeCycle (requests ++ [evaluate] ++ externals)) = requests ++ [evaluate] ++ externals := by
  have row : AtMostOneOf .evaluate [evaluate] := .inr ⟨_, rfl, he⟩
  have groups (g : Group) : ofGroup g (requests ++ [evaluate] ++ externals)
      = (if .request = g then requests else []) ++ (if .evaluate = g then [evaluate] else [])
        ++ (if .external = g then externals else []) := by
    rw [ofGroup_append, ofGroup_append, hr.ofGroup_eq, row.ofGroup_eq, hx.ofGroup_eq]
  rw [decode_word, ← evaluateOf, rst_encodeCycle ((groups _).trans (by simp)),
    requestOps_encodeCycle ((groups _).trans (by simp)) hr,
    evaluateOf_encodeCycle ((groups _).trans (by simp)) he,
    externalOps_encodeCycle ((groups _).trans (by simp)) hx]
  rfl

/-- Settles O42: a well-formed cycle is RESET alone or three groups, and each group's rows read only the
inputs that the operations of the group assert. -/
theorem decodeEncodeCycle : Obligations.DecodeEncodeCycle := by
  unfold Obligations.DecodeEncodeCycle
  intro ops wf
  rcases (wfCycle_iff ops).mp wf with rfl | ⟨requests, evaluate, externals, rfl, hr, he, hx⟩
  · decide
  · exact decode_encodeCycle_append hr he hx

/-! ## Words written out -/

/-- Settles O43: six fixed words, evaluated. -/
theorem wordsFromTheTableDecode : Obligations.WordsFromTheTableDecode := by
  unfold Obligations.WordsFromTheTableDecode
  decide

end Sys2Proof
end

section
/-! PROOFS. The two requests of phase 1 (spec/40_requests.md R90 to R95) and the step as its operations in
phase order (R102): O1, O2, O3, O16. Which operations a word selects is read off the hits of its rows; what
a cycle leaves is read off the whole-cycle function, register by register. -/

namespace Sys2Proof.Machine

/-! ## The words that select a request -/

/-- Every word packs the inputs and the state that it stands for (R77). -/
theorem selectorOf_inputsOf_cs (w : CycleWord) : selectorOf (inputsOf w) (stateField w.cs) = w.cs :=
  packSelector_fields w.cs

/-- R79: the masks of the two requests, for every word, as conditions on the inputs it stands for. -/
theorem requestMasks_iff (w : CycleWord) :
    (w.cs &&& 0x220#10 = 0x020#10 ↔ (inputsOf w).rst = false ∧ (inputsOf w).reqExc = true)
    ∧ (w.cs &&& 0x230#10 = 0x010#10
        ↔ (inputsOf w).rst = false ∧ (inputsOf w).reqExc = false ∧ (inputsOf w).reqRet = true) := by
  have hits := requestRows_hit (stateField w.cs) (inputsOf w).beginTrapReturn (inputsOf w).beginTrap
    (inputsOf w).reqRet (inputsOf w).reqExc (inputsOf w).extWe (inputsOf w).extSel (inputsOf w).rst
  rw [← selectorOf, selectorOf_inputsOf_cs] at hits
  simp only [requestRows, Row.hits, List.map_cons, List.map_nil, List.cons.injEq, and_true] at hits
  obtain ⟨exc, ret⟩ := hits
  rw [← beq_iff_eq (a := w.cs &&& 0x220#10), exc, ← beq_iff_eq (a := w.cs &&& 0x230#10), ret]
  simp [and_assoc]

/-- REQ_EXC with the operands of the cycle runs exactly with `req_exc_i` and without reset. -/
theorem reqExc_mem_decode (w : CycleWord) :
    .reqExc w.data.epc w.data.cause w.data.tval ∈ decode w
      ↔ (inputsOf w).rst = false ∧ (inputsOf w).reqExc = true := by
  have data : (inputsOf w).data = w.data := rfl
  simp [mem_decode, mem_requestOps, eq_evaluateOp, mem_externalOps, data]

/-- REQ_RET runs exactly with `req_ret_i` alone of the two requests and without reset (R92). -/
theorem reqRet_mem_decode (w : CycleWord) :
    .reqRet ∈ decode w
      ↔ (inputsOf w).rst = false ∧ (inputsOf w).reqExc = false ∧ (inputsOf w).reqRet = true := by
  simp [mem_decode, mem_requestOps, eq_evaluateOp, mem_externalOps]

/-! ## What survives of a request to the edge -/

/-- R91: the state write of REQ_EXC survives with the entry trigger, or from `Idle` without the return
trigger. -/
theorem stateAfter_eq_setCSRJump_iff (i : Inputs) (st : Ctl) :
    stateAfter i st .setCSRJump = .setCSRJump
      ↔ i.beginTrap = true ∨ (i.beginTrapReturn = false ∧ st = .idle) := by
  unfold stateAfter
  cases i.beginTrap
  case true => simp
  case false =>
    cases i.beginTrapReturn
    case true => simp
    case false => cases st <;> simp

/-- R94: the state write of REQ_RET survives without the entry trigger, from `Idle` or with the return
trigger. -/
theorem stateAfter_eq_returnFromTrap_iff (i : Inputs) (st : Ctl) :
    stateAfter i st .returnFromTrap = .returnFromTrap
      ↔ i.beginTrap = false ∧ (i.beginTrapReturn = true ∨ st = .idle) := by
  unfold stateAfter
  cases i.beginTrap
  case true => simp
  case false =>
    cases i.beginTrapReturn
    case true => simp
    case false => cases st <;> simp

/-- R90: the record of a REQ_EXC reaches the edge. -/
theorem afterCycle_record {s : State} (noReset : s.inputs.rst = false) (reqExc : s.inputs.reqExc = true) :
    (afterCycle s).cur.recEpc = s.inputs.data.epc ∧ (afterCycle s).cur.recCause = s.inputs.data.cause
      ∧ (afterCycle s).cur.recTval = s.inputs.data.tval := by
  obtain ⟨t, run, record⟩ := recordWrittenByReqExcOnly s noReset
  rwa [eq_afterCycle_of_step run, if_pos reqExc] at record

/-- R92: with `req_exc_i`, no phase reads `req_ret_i`. -/
theorem referenceCycle_reqRet {i : Inputs} (reqExc : i.reqExc = true) (b : Bool) (c : Regs)
    (m : Option Fault) : referenceCycle { i with reqRet := b } c m = referenceCycle i c m := by
  have request : referenceRequest { i with reqRet := b } c = referenceRequest i c := by
    simp [referenceRequest, reqExc]
  simp only [referenceCycle, request]
  rfl

/-- R95: without REQ_EXC the record is kept. -/
theorem afterCycle_recordKept {s : State} (noReset : s.inputs.rst = false)
    (noExc : s.inputs.reqExc = false) : RecordKept s.cur (afterCycle s).cur := by
  obtain ⟨t, run, record⟩ := recordWrittenByReqExcOnly s noReset
  rwa [eq_afterCycle_of_step run, noExc] at record

/-- The state after a cycle without reset. -/
theorem afterCycle_state {s : State} (noReset : s.inputs.rst = false) :
    (afterCycle s).cur.state = stateAfter s.inputs s.cur.state
      (if s.inputs.reqExc then .setCSRJump else if s.inputs.reqRet then .returnFromTrap
        else s.cur.state) := by
  rw [afterCycle_cur, referenceCycle_state, noReset]
  rfl

/-- The redirect target after a cycle without reset (R117). -/
theorem afterCycle_pcToSet {s : State} (noReset : s.inputs.rst = false) :
    (afterCycle s).cur.pcToSet = targetAfter s.inputs s.cur := by
  rw [afterCycle_cur, referenceCycle_pcToSet, noReset]
  rfl

/-! ## A cycle of `Idle`, whatever is requested in it -/

/-- R127: EV_IDLE deasserts the three flags. -/
theorem afterCycle_flagsDeasserted_of_idle {s : State} (noReset : s.inputs.rst = false)
    (noTrap : s.inputs.beginTrap = false) (noReturn : s.inputs.beginTrapReturn = false)
    (idle : s.cur.state = .idle) : FlagsDeasserted (afterCycle s).cur := by
  simp [FlagsDeasserted, referenceCycle_flush, referenceCycle_setPc, referenceCycle_rtpm, redirectAfter,
    branchRuns, noReset, noTrap, noReturn, idle]

/-- In `Idle`, with or without a trigger, the redirect target holds (R121, R122, R127). -/
theorem afterCycle_pcToSet_of_idle {s : State} (noReset : s.inputs.rst = false)
    (idle : s.cur.state = .idle) : (afterCycle s).cur.pcToSet = s.cur.pcToSet := by
  rw [afterCycle_pcToSet noReset]
  simp [targetAfter, idle]

/-- In `Idle`, with or without a trigger, the controller writes no latch (R139). -/
theorem afterCycle_latchesKept_of_idle {s : State} (noReset : s.inputs.rst = false)
    (idle : s.cur.state = .idle) (noWrite : s.inputs.extWe = false) :
    LatchesKept s.cur (afterCycle s).cur := by
  simp [LatchesKept, referenceCycle_mepc, referenceCycle_mcause, referenceCycle_mtval,
    referenceCycle_mstatus, rowWrites, writesLatch, noReset, idle, noWrite]

/-! ## The obligations -/

/-- Settles O1: the record has no later writer in the cycle; of the state write, R91 is a fact of the
evaluate phase. -/
theorem reqExcWritesRecordAndState : Obligations.ReqExcWritesRecordAndState := by
  unfold Obligations.ReqExcWritesRecordAndState
  refine ⟨fun _ _ _ _ => rfl, fun w => (reqExc_mem_decode w).trans (requestMasks_iff w).1.symm, ?_⟩
  intro s noReset reqExc
  obtain ⟨epc, cause, tval⟩ := afterCycle_record noReset reqExc
  refine ⟨_, step_eq s, epc, cause, tval, ?_, afterCycle_flagsDeasserted_of_idle noReset⟩
  rw [afterCycle_state noReset, if_pos reqExc]
  exact stateAfter_eq_setCSRJump_iff ..

/-- Settles O2: R94 is a fact of the evaluate phase, and from `Idle` the rest is EV_IDLE's. -/
theorem reqRetForcesReturn : Obligations.ReqRetForcesReturn := by
  unfold Obligations.ReqRetForcesReturn
  refine ⟨fun _ => rfl, fun w => (reqRet_mem_decode w).trans (requestMasks_iff w).2.symm, ?_⟩
  intro s noReset noExc reqRet
  refine ⟨_, step_eq s, afterCycle_recordKept noReset noExc, ?_, ?_⟩
  · rw [afterCycle_state noReset, noExc, if_pos reqRet]
    exact stateAfter_eq_returnFromTrap_iff ..
  · intro noTrap noReturn idle
    exact ⟨afterCycle_flagsDeasserted_of_idle noReset noTrap noReturn idle,
      afterCycle_pcToSet_of_idle noReset idle, afterCycle_latchesKept_of_idle noReset idle⟩

/-- Settles O3: phase 1 tests `req_exc_i` first, and `req_ret_i` is read nowhere else. -/
theorem reqExcBeatsReqRet : Obligations.ReqExcBeatsReqRet := by
  unfold Obligations.ReqExcBeatsReqRet
  refine ⟨?_, ?_, ?_⟩
  · intro w noReset reqExc
    refine ⟨(reqExc_mem_decode w).mpr ⟨noReset, reqExc⟩, fun ret => ?_⟩
    obtain ⟨-, noExc, -⟩ := (reqRet_mem_decode w).mp ret
    exact absurd (noExc.symm.trans reqExc) Bool.false_ne_true
  · intro s i is reqExc
    simp only [step_eq, afterCycle_eq, State.inputs, referenceCycle_reqRet reqExc, List.tail_cons]
  · intro s noReset noExc noRet
    refine ⟨?_, _, step_eq s, afterCycle_recordKept noReset noExc⟩
    intro op mem request
    have noRequest : requestOps s.inputs = [] := by simp [requestOps, noExc, noRet]
    simp only [operations_eq, noReset, noRequest, Bool.false_eq_true, if_false, List.nil_append,
      List.mem_append, List.mem_singleton] at mem
    rcases mem with rfl | external
    · simp [evaluateOp_group] at request
    · simp [externalOps_group _ op external] at request

/-! ## The step as its operations -/

/-- A driven word is the next cycle's word (log entry 3). -/
theorem State.cycleWord_drive (s : State) (w : CycleWord) : (s.drive w).cycleWord = w := by
  have state : encodeCtl (s.drive w).cur.state = stateField w.cs := encodeCtl_decodeCtl _
  rw [State.cycleWord, State.inputs_of_script rfl, state, selectorOf_inputsOf]

/-- A step runs the decoded operations in order and then the edge (R78, R102). -/
theorem step_of_decode {s : State} {ops : List Instr} (h : decode s.cycleWord = ops) :
    step s = .next (ops.foldl (fun t op => effect op t) s.beginCycle).clockEdge := by
  rw [step_eq, afterCycle, State.operations, h]

/-- Settles O16: `exec` answers the effect of each operation, and the step is their composition. -/
theorem stepRunsTheDecodedOperations : Obligations.StepRunsTheDecodedOperations := by
  unfold Obligations.StepRunsTheDecodedOperations
  refine ⟨?_, ?_, ?_, fun _ => ⟨rfl, rfl, rfl⟩, State.cycleWord_drive⟩
  · intro s a h
    exact ⟨_, exec_eq .., step_of_decode h⟩
  · intro s a b h
    exact ⟨_, _, exec_eq .., exec_eq .., step_of_decode h⟩
  · intro s a b c h
    exact ⟨_, _, _, exec_eq .., exec_eq .., exec_eq .., step_of_decode h⟩

end Sys2Proof.Machine
end

section
/-! PROOFS. The external write port (spec/40_requests.md R96 to R104): O10, O11, O12, O57. A cycle's write of
a latch conflicts exactly when the evaluate row of the cycle writes the latch (`mem_rowWrites_iff`);
then the controller's value stays, else the write lands. Each obligation is these two facts at its latches. -/

namespace Sys2Proof.Machine

/-! ## The operation -/

/-- R96 to R100, for every latch: the fault of R99, or the latch's next value. -/
theorem exec_externalOp (l : Latch) (v : Word) (s : State) :
    exec (externalOp l v) s
      = .next (if l ∈ s.ctrlWrites then { s with fault := some (.csrWriteConflict l) }
          else { s with nxt := s.nxt.putLatch l v }) := by
  cases l <;> rfl

/-- A word selects the external write of a latch exactly without reset and with the port's write (R81). -/
theorem externalOp_mem_decode (w : CycleWord) (l : Latch) :
    externalOp l w.data.wdata ∈ decode w
      ↔ (inputsOf w).rst = false ∧ writesLatch (inputsOf w) l = true := by
  have data : (inputsOf w).data = w.data := rfl
  cases l <;>
    simp [mem_decode, mem_requestOps, eq_evaluateOp, mem_externalOps, externalOp, writesLatch, data]

/-- R81: the match value of a latch's row. -/
def externalPattern : Latch → Selector
  | .mepc => 0x040#10
  | .mcause => 0x0C0#10
  | .mtval => 0x140#10
  | .mstatus => 0x1C0#10

/-- R81: the mask of the external writes, for every word, as a condition on the inputs it stands for. -/
theorem externalMask_iff (w : CycleWord) (l : Latch) :
    w.cs &&& 0x3C0#10 = externalPattern l
      ↔ (inputsOf w).rst = false ∧ writesLatch (inputsOf w) l = true := by
  have hits := externalRows_hit (stateField w.cs) (inputsOf w).beginTrapReturn (inputsOf w).beginTrap
    (inputsOf w).reqRet (inputsOf w).reqExc (inputsOf w).extWe (inputsOf w).extSel (inputsOf w).rst
  rw [← selectorOf, selectorOf_inputsOf_cs] at hits
  simp only [externalRows, Row.hits, List.map_cons, List.map_nil, List.cons.injEq, and_true] at hits
  obtain ⟨mepc, mcause, mtval, mstatus⟩ := hits
  rw [← beq_iff_eq]
  cases l <;> simp [externalPattern, writesLatch, and_assoc, *]

/-- The operation of a latch is selected exactly by its row of R81. -/
theorem externalOp_mem_decode_iff_mask (w : CycleWord) (l : Latch) :
    externalOp l w.data.wdata ∈ decode w ↔ w.cs &&& 0x3C0#10 = externalPattern l :=
  (externalOp_mem_decode w l).trans (externalMask_iff w l).symm

/-! ## The latches that the controller writes -/

/-- R139: EV_SET_CSR_JUMP writes the four latches, EV_RETURN_FROM_TRAP writes `mstatus`, no other row any. -/
theorem mem_rowWrites_iff (l : Latch) (i : Inputs) (st : Ctl) :
    l ∈ rowWrites i st
      ↔ i.beginTrap = false ∧ i.beginTrapReturn = false
        ∧ (st = .setCSRJump ∨ (st = .returnFromTrap ∧ l = .mstatus)) := by
  unfold rowWrites branchRuns
  cases i.beginTrap
  case true => simp
  case false =>
    cases i.beginTrapReturn
    case true => simp
    case false => cases st <;> cases l <;> simp

/-- A latch that the controller writes holds the controller's value after the edge, whatever the port does. -/
theorem afterCycle_latch_of_mem_rowWrites {s : State} {l : Latch} (noReset : s.inputs.rst = false)
    (claimed : l ∈ rowWrites s.inputs s.cur.state) : (afterCycle s).cur.latch l = rowValue s.cur l := by
  rw [afterCycle_cur, referenceCycle_latch, noReset, if_pos claimed]
  rfl

/-! ## Conflict, or the write lands -/

/-- R99: a conflict is an external write, without reset, of a latch that the evaluate row writes. -/
theorem writeConflict_iff (s : State) :
    writeConflict s = true ↔ s.inputs.rst = false ∧ s.inputs.extWe = true
      ∧ selectLatch s.inputs.extSel ∈ rowWrites s.inputs s.cur.state := by
  rw [writeConflict]
  cases noReset : s.inputs.rst
  case true => simp
  case false => simp [controllerWrites_eq noReset]

/-- R99: a conflict marks the run with its latch. -/
theorem afterCycle_fault_of_conflict {s : State} (conflict : writeConflict s = true) :
    (afterCycle s).fault = some (.csrWriteConflict (selectLatch s.inputs.extSel)) := by
  rw [afterCycle_mark, if_pos conflict]

/-- R96 to R100: an external write of a latch that the evaluate row does not write lands, without a mark. -/
theorem afterCycle_write_lands {s : State} (noReset : s.inputs.rst = false) (write : s.inputs.extWe = true)
    (free : selectLatch s.inputs.extSel ∉ rowWrites s.inputs s.cur.state) :
    (afterCycle s).fault = s.fault
      ∧ (afterCycle s).cur.latch (selectLatch s.inputs.extSel) = s.inputs.data.wdata := by
  have noConflict : ¬ writeConflict s = true := fun h => free ((writeConflict_iff s).mp h).2.2
  refine ⟨by rw [afterCycle_mark, if_neg noConflict], ?_⟩
  rw [afterCycle_cur, referenceCycle_latch, noReset, if_neg free]
  simp [writesLatch, write]

/-! ## The obligations -/

/-- Settles O10: of the trap frame only EV_SET_CSR_JUMP writes, and the redirect of a cycle reads current
values. -/
theorem externalWritesOfTrapFrame : Obligations.ExternalWritesOfTrapFrame := by
  unfold Obligations.ExternalWritesOfTrapFrame
  refine ⟨fun s v => ⟨exec_externalOp .mepc v s, exec_externalOp .mcause v s, exec_externalOp .mtval v s⟩,
    fun w => ⟨externalOp_mem_decode_iff_mask w .mepc, externalOp_mem_decode_iff_mask w .mcause,
      externalOp_mem_decode_iff_mask w .mtval⟩, ?_⟩
  rintro s l noReset write rfl notStatus
  have claimed := mem_rowWrites_iff (selectLatch s.inputs.extSel) s.inputs s.cur.state
  simp only [notStatus, and_false, or_false] at claimed
  refine ⟨_, step_eq s, ?_⟩
  split
  case isTrue commit =>
    refine ⟨afterCycle_fault_of_conflict ((writeConflict_iff s).mpr ⟨noReset, write, claimed.mpr commit⟩), ?_⟩
    obtain ⟨noTrap, noReturn, pending⟩ := commit
    rw [afterCycle_pcToSet noReset]
    simp [targetAfter, branchRuns, noTrap, noReturn, pending]
  case isFalse noCommit =>
    obtain ⟨mark, value⟩ := afterCycle_write_lands noReset write (mt claimed.mp noCommit)
    refine ⟨value, mark, fun noTrap noReturn pending => ?_⟩
    rw [afterCycle_pcToSet noReset]
    simp [targetAfter, branchRuns, noTrap, noReturn, pending]

/-- Settles O11: `mstatus` is written by both commit rows. -/
theorem externalWriteOfStatus : Obligations.ExternalWriteOfStatus := by
  unfold Obligations.ExternalWriteOfStatus
  refine ⟨fun s v => exec_externalOp .mstatus v s, fun w => externalOp_mem_decode_iff_mask w .mstatus, ?_⟩
  intro s noReset write status
  have claimed := mem_rowWrites_iff .mstatus s.inputs s.cur.state
  simp only [and_true] at claimed
  refine ⟨_, step_eq s, ?_⟩
  split
  case isTrue commit =>
    rw [← status]
    exact afterCycle_fault_of_conflict
      ((writeConflict_iff s).mpr ⟨noReset, write, status ▸ claimed.mpr commit⟩)
  case isFalse noCommit =>
    obtain ⟨mark, value⟩ := afterCycle_write_lands noReset write (status ▸ mt claimed.mp noCommit)
    rw [status] at value
    exact ⟨value, mark⟩

/-- Settles O12: in a conflict cycle a commit row runs, so its values stay; the mark is kept by O28. -/
theorem writeConflictMarksTheRun : Obligations.WriteConflictMarksTheRun := by
  unfold Obligations.WriteConflictMarksTheRun
  constructor
  · intro s conflict
    obtain ⟨noReset, -, claimed⟩ := (writeConflict_iff s).mp conflict
    obtain ⟨noTrap, noReturn, -⟩ := (mem_rowWrites_iff ..).mp claimed
    have mark := afterCycle_fault_of_conflict conflict
    refine ⟨_, step_eq s, mark, fun entry => ?_, fun ret => ?_, fun n u run => ?_⟩
    · have kept (l : Latch) : (afterCycle s).cur.latch l = rowValue s.cur l :=
        afterCycle_latch_of_mem_rowWrites noReset
          ((mem_rowWrites_iff ..).mpr ⟨noTrap, noReturn, .inl entry⟩)
      exact ⟨kept .mepc, kept .mcause, kept .mtval, (kept .mstatus).trans (if_pos entry)⟩
    · have kept : (afterCycle s).cur.latch .mstatus = rowValue s.cur .mstatus :=
        afterCycle_latch_of_mem_rowWrites noReset
          ((mem_rowWrites_iff ..).mpr ⟨noTrap, noReturn, .inr ⟨ret, rfl⟩⟩)
      exact kept.trans (if_neg (by simp [ret]))
    · obtain ⟨-, -, sticky⟩ := faultMarkIsSticky
      exact sticky n _ u run (mark ▸ Option.some_ne_none _)
  · intro s noConflict noReset write
    have free : selectLatch s.inputs.extSel ∉ rowWrites s.inputs s.cur.state := fun claimed =>
      Bool.false_ne_true (noConflict.symm.trans ((writeConflict_iff s).mpr ⟨noReset, write, claimed⟩))
    exact ⟨_, step_eq s, afterCycle_write_lands noReset write free⟩

/-- R104: a status written in a trigger cycle lands, whichever trigger it is. -/
theorem afterCycle_status_of_trigger {s : State} (noReset : s.inputs.rst = false)
    (trigger : s.inputs.beginTrap = true ∨ s.inputs.beginTrapReturn = true) (write : s.inputs.extWe = true)
    (status : selectLatch s.inputs.extSel = .mstatus) :
    (afterCycle s).fault = s.fault ∧ (afterCycle s).cur.mstatus = s.inputs.data.wdata := by
  have free : selectLatch s.inputs.extSel ∉ rowWrites s.inputs s.cur.state := by
    intro claimed
    obtain ⟨noTrap, noReturn, -⟩ := (mem_rowWrites_iff ..).mp claimed
    simp [noTrap, noReturn] at trigger
  have lands := afterCycle_write_lands noReset write free
  rwa [status] at lands

/-- R130, R133: what the commit cycle of an entry or of a return makes of the status it finds. -/
theorem afterCycle_status_of_commit {s : State} (quiet : Quiet s.inputs)
    (pending : s.cur.state = .setCSRJump ∨ s.cur.state = .returnFromTrap) :
    (afterCycle s).cur.mstatus
      = if s.cur.state = .setCSRJump then push s.cur.mstatus else pop s.cur.mstatus := by
  obtain ⟨noReset, noTrap, noReturn, -⟩ := quiet
  exact afterCycle_latch_of_mem_rowWrites (l := .mstatus) noReset
    ((mem_rowWrites_iff ..).mpr ⟨noTrap, noReturn, pending.imp_right fun h => ⟨h, rfl⟩⟩)

/-- Settles O57: the write lands at the trigger's edge, and the commit cycle reads the current status. -/
theorem statusWrittenInTriggerCycleIsUsed : Obligations.StatusWrittenInTriggerCycleIsUsed := by
  unfold Obligations.StatusWrittenInTriggerCycleIsUsed
  intro s i j is script quiet write status noReset
  obtain rfl := State.inputs_of_script script
  have next : (afterCycle s).inputs = j :=
    State.inputs_of_script (is := is) (by rw [afterCycle_script, script, List.tail_cons])
  have commit := afterCycle_status_of_commit (s := afterCycle s) (next ▸ quiet)
  constructor
  · intro trap
    obtain ⟨mark, value⟩ := afterCycle_status_of_trigger noReset (.inl trap) write status
    have state : (afterCycle s).cur.state = .setCSRJump := by
      rw [afterCycle_state noReset]
      simp [stateAfter, trap]
    refine ⟨_, _, step_eq s, step_eq _, mark, value, ?_⟩
    rw [commit (.inl state), state, value]
    rfl
  · intro noTrap ret
    obtain ⟨mark, value⟩ := afterCycle_status_of_trigger noReset (.inr ret) write status
    have state : (afterCycle s).cur.state = .returnFromTrap := by
      rw [afterCycle_state noReset]
      simp [stateAfter, noTrap, ret]
    refine ⟨_, _, step_eq s, step_eq _, mark, value, ?_⟩
    rw [commit (.inr state), state, value]
    rfl

end Sys2Proof.Machine
end

section
/-! PROOFS. The words of the datapath (spec/41_datapath.md R105 to R115): O32, O33, O34, O35, O37, O40. Push
and pop both move one bit to another position; what such a move makes of each bit is said once, and the
masked forms, the other bits and the compositions are read off it. -/

namespace Sys2Proof.Machine

/-! ## Moving a bit -/

/-- Moves the bit at `src` to `dst` and clears `src`: the step sequence that R111 and R113 share. -/
def moveBit (src dst : Nat) (v : Word) : Word := clearBit (putBit v dst (getBit v src)) src

theorem push_eq_moveBit (m : Word) : push m = moveBit 3 7 m := rfl

theorem pop_eq_moveBit (m : Word) : pop m = moveBit 7 3 m := rfl

/-- The word after a move, position by position. -/
theorem moveBit_getLsbD (src dst : Nat) (v : Word) {j : Nat} (hj : j < 32) :
    (moveBit src dst v).getLsbD j
      = if j = src then false else if j = dst then v.getLsbD src else v.getLsbD j := by
  rw [moveBit, clearBit_getLsbD _ _ hj, putBit_getLsbD _ _ _ hj, getBit_getLsbD_zero]

/-- A move changes no other bit. -/
theorem moveBit_getLsbD_of_ne {src dst j : Nat} (v : Word) (notSrc : j ≠ src) (notDst : j ≠ dst) :
    (moveBit src dst v).getLsbD j = v.getLsbD j := by
  rcases Nat.lt_or_ge j 32 with hj | past
  · rw [moveBit_getLsbD src dst v hj, if_neg notSrc, if_neg notDst]
  · rw [BitVec.getLsbD_of_ge _ _ past, BitVec.getLsbD_of_ge _ _ past]

/-- A move as a mask: both positions cleared, and the moved bit put in at `dst`. -/
theorem moveBit_eq_or {src dst : Nat} (ne : src ≠ dst) (v : Word) :
    moveBit src dst v
      = clearBit (clearBit v src) dst ||| (if v.getLsbD src then BitVec.twoPow 32 dst else 0#32) := by
  apply BitVec.eq_of_getLsbD_eq
  intro j hj
  rw [moveBit_getLsbD src dst v hj, BitVec.getLsbD_or, clearBit_getLsbD _ _ hj, clearBit_getLsbD _ _ hj]
  by_cases atSrc : j = src
  · subst atSrc
    cases v.getLsbD j <;> simp [ne, ne.symm]
  · by_cases atDst : j = dst
    · subst atDst
      cases v.getLsbD src <;> simp [hj, atSrc]
    · cases v.getLsbD src <;> simp [atSrc, atDst, Ne.symm atDst]

/-! ## The masks of `mstatus` -/

/-- R115 masks MPIE off. -/
theorem and_eq_clearBit_mpie (m : Word) : m &&& 0xFFFFFF7F#32 = clearBit m 7 := rfl

/-- R115 masks MIE off. -/
theorem and_eq_clearBit_mie (m : Word) : m &&& 0xFFFFFFF7#32 = clearBit m 3 := rfl

/-- R111, R113, R115 mask both flags off. -/
theorem and_eq_clearBit_both (m : Word) : m &&& 0xFFFFFF77#32 = clearBit (clearBit m 3) 7 := by
  rw [clearBit, clearBit, BitVec.and_assoc]
  rfl

/-- R111: MIE masked out and shifted to the position of MPIE. -/
theorem mie_mask_shiftLeft (m : Word) :
    (m &&& 0x00000008#32) <<< 4 = if m.getLsbD 3 then BitVec.twoPow 32 7 else 0#32 := by
  have mask : m &&& 0x00000008#32 = if m.getLsbD 3 then BitVec.twoPow 32 3 else 0#32 := BitVec.and_twoPow m 3
  rw [mask]
  cases m.getLsbD 3 <;> rfl

/-- R113: MPIE masked out and shifted to the position of MIE. -/
theorem mpie_mask_ushiftRight (m : Word) :
    (m &&& 0x00000080#32) >>> 4 = if m.getLsbD 7 then BitVec.twoPow 32 3 else 0#32 := by
  have mask : m &&& 0x00000080#32 = if m.getLsbD 7 then BitVec.twoPow 32 7 else 0#32 := BitVec.and_twoPow m 7
  rw [mask]
  cases m.getLsbD 7 <;> rfl

theorem clearBit_comm (v : Word) (i k : Nat) : clearBit (clearBit v i) k = clearBit (clearBit v k) i := by
  rw [clearBit, clearBit, clearBit, clearBit, BitVec.and_assoc, BitVec.and_comm (~~~_), BitVec.and_assoc]

/-! ## Push and pop -/

/-- Settles O32: push moves bit 3 to bit 7. -/
theorem pushSavesInterruptEnable : Obligations.PushSavesInterruptEnable := by
  unfold Obligations.PushSavesInterruptEnable
  intro m
  rw [push_eq_moveBit]
  refine ⟨rfl, ?_, ?_, ?_, fun j => moveBit_getLsbD_of_ne m⟩
  · rw [and_eq_clearBit_both, mie_mask_shiftLeft]
    exact moveBit_eq_or (by decide) m
  · exact moveBit_getLsbD 3 7 m (by decide)
  · exact moveBit_getLsbD 3 7 m (by decide)

/-- Settles O33: pop moves bit 7 to bit 3. -/
theorem popRestoresInterruptEnable : Obligations.PopRestoresInterruptEnable := by
  unfold Obligations.PopRestoresInterruptEnable
  intro m
  rw [pop_eq_moveBit]
  refine ⟨rfl, ?_, ?_, ?_, fun j notMie notMpie => moveBit_getLsbD_of_ne m notMpie notMie⟩
  · rw [and_eq_clearBit_both, mpie_mask_ushiftRight, clearBit_comm]
    exact moveBit_eq_or (by decide) m
  · exact moveBit_getLsbD 7 3 m (by decide)
  · exact moveBit_getLsbD 7 3 m (by decide)

/-- Moving a bit away and back clears the position it was kept at. -/
theorem moveBit_moveBit_back {src dst : Nat} (ne : src ≠ dst) (hdst : dst < 32) (v : Word) :
    moveBit dst src (moveBit src dst v) = clearBit v dst := by
  apply BitVec.eq_of_getLsbD_eq
  intro j hj
  rw [moveBit_getLsbD dst src _ hj, moveBit_getLsbD src dst v hdst, moveBit_getLsbD src dst v hj,
    clearBit_getLsbD v dst hj, if_neg ne.symm, if_pos rfl]
  by_cases atSrc : j = src
  · simp [atSrc, ne]
  · by_cases atDst : j = dst <;> simp [atSrc, atDst]

/-- A second move of the same bit finds `src` clear, and so clears `dst`. -/
theorem moveBit_moveBit_same {src dst : Nat} (hsrc : src < 32) (v : Word) :
    moveBit src dst (moveBit src dst v) = clearBit (moveBit src dst v) dst := by
  have cleared : (moveBit src dst v).getLsbD src = false := by
    rw [moveBit_getLsbD src dst v hsrc, if_pos rfl]
  apply BitVec.eq_of_getLsbD_eq
  intro j hj
  rw [moveBit_getLsbD src dst (moveBit src dst v) hj, clearBit_getLsbD _ _ hj, cleared]
  by_cases atSrc : j = src <;> simp [atSrc, cleared]

/-- With `dst` cleared after a move, both positions are clear. -/
theorem clearBit_moveBit (src dst : Nat) (v : Word) :
    clearBit (moveBit src dst v) dst = clearBit (clearBit v src) dst := by
  apply BitVec.eq_of_getLsbD_eq
  intro j hj
  simp only [clearBit_getLsbD _ _ hj, moveBit_getLsbD src dst v hj]
  by_cases atDst : j = dst <;> simp [atDst]

/-- Settles O34: two moves there and back, and two moves the same way. -/
theorem pushPopCompositions : Obligations.PushPopCompositions := by
  unfold Obligations.PushPopCompositions
  intro m
  simp only [push_eq_moveBit, pop_eq_moveBit, and_eq_clearBit_mpie, and_eq_clearBit_mie,
    and_eq_clearBit_both]
  refine ⟨moveBit_moveBit_back (by decide) (by decide) m,
    moveBit_moveBit_back (by decide) (by decide) m, moveBit_moveBit_same (by decide) m, ?_⟩
  rw [moveBit_moveBit_same (by decide), clearBit_moveBit, clearBit_comm]

/-! ## Cause codes and the vector address -/

/-- Settles O35: the fields are laws of the vector table's proofs, and the flag selects the offset. -/
theorem causeFieldsAndRegionOffset : Obligations.CauseFieldsAndRegionOffset := by
  unfold Obligations.CauseFieldsAndRegionOffset
  intro c
  have flag := isInterrupt_eq_true_iff c
  refine ⟨flag, causeIndex_toNat c, fun interrupt => ?_, fun exception => ?_⟩
  · rw [regionOffset, flag.mpr interrupt, cond_true]
  · have noInterrupt : isInterrupt c = false := by
      rw [← Bool.not_eq_true, flag]
      omega
    rw [regionOffset, noInterrupt, cond_false]

/-- R108: the shift loses bit 30 of the index and keeps the bits below. -/
theorem causeIndex_shiftLeft_two (c : Word) :
    causeIndex c <<< 2 = (c.extractLsb' 0 30 ++ 0#2 : BitVec 32) := by
  have low : (causeIndex c).extractLsb' 0 30 = c.extractLsb' 0 30 := by
    apply BitVec.eq_of_getLsbD_eq
    intro j hj
    simp [causeIndex, hj, hj.trans]
  rw [BitVec.shiftLeft_eq_concat_of_lt (by decide), low]
  rfl

/-- Settles O37: both parts are stated above for every word. -/
theorem vectorAddressFormula : Obligations.VectorAddressFormula := by
  unfold Obligations.VectorAddressFormula
  exact ⟨vectorAddress_toNat, causeIndex_shiftLeft_two⟩

/-- R110: bit 30 of a code is neither its flag nor one of the index bits that the shift keeps. -/
theorem vectorAddress_xor_bit30 (mtvec c : Word) :
    vectorAddress mtvec (c ^^^ 0x40000000#32) = vectorAddress mtvec c := by
  have flag : isInterrupt (c ^^^ 0x40000000#32) = isInterrupt c := by
    simp [isInterrupt]
  have index : (c ^^^ 0x40000000#32).extractLsb' 0 30 = c.extractLsb' 0 30 := by
    rw [BitVec.extractLsb'_xor]
    exact BitVec.xor_zero
  rw [vectorAddress, vectorAddress, regionOffset, regionOffset, flag, causeIndex_shiftLeft_two,
    causeIndex_shiftLeft_two, index]

/-- Settles O40: 12 slots of 4 bytes are the 0x30 bytes by which the exceptions' region is moved up. -/
theorem outsideCodesTakeFormulaValue : Obligations.OutsideCodesTakeFormulaValue := by
  unfold Obligations.OutsideCodesTakeFormulaValue
  refine ⟨?_, fun mtvec e _ => vectorAddress_encodeCause mtvec false e, vectorAddress_xor_bit30⟩
  intro mtvec i low high
  obtain ⟨e, rfl⟩ := Nat.exists_eq_add_of_le low
  have slots : BitVec.ofNat 32 (4 * (12 + e)) = 0x30#32 + BitVec.ofNat 32 (4 * e) := by
    rw [Nat.mul_add, BitVec.ofNat_add]
  rw [vectorAddress_encodeCause, vectorAddress_encodeCause, four_mul_zeroExtend_ofNat (by omega),
    four_mul_zeroExtend_ofNat (by omega), Nat.add_sub_cancel_left, slots, cond_true, cond_false,
    BitVec.add_zero, BitVec.add_assoc]

end Sys2Proof.Machine
end

section
/-! PROOFS. The save and restore multiplexer (spec/41_datapath.md R116) and the round trip of an entry and
the earliest return (R115; spec/70_reset_and_hazards.md R183): O21, O49. A scripted run is the whole-cycle
function folded over its inputs, so the round trip is five equations of that function, one a cycle. -/

namespace Sys2Proof.Machine

/-- Settles O21: the multiplexer of the whole-cycle function, with R99's write set. -/
theorem latchMultiplexer : Obligations.LatchMultiplexer := by
  unfold Obligations.LatchMultiplexer
  intro s noReset
  refine ⟨_, step_eq s, fun l => ?_⟩
  rw [afterCycle_cur, referenceCycle_latch, noReset, controllerWrites_eq noReset]
  simp only [Bool.false_eq_true, if_false, writesLatch, Bool.and_eq_true, beq_iff_eq]
  cases l <;> rfl

/-! ## Scripted runs -/

/-- The whole-cycle function of R140 iterated over the inputs of a run, on registers and mark. -/
def referenceRun : List Inputs → Regs × Option Fault → Regs × Option Fault
  | [], r => r
  | i :: is, (c, m) => referenceRun is (referenceCycle i c m)

theorem referenceRun_cons (i : Inputs) (is : List Inputs) (c : Regs) (m : Option Fault) :
    referenceRun (i :: is) (c, m) = referenceRun is (referenceCycle i c m) := rfl

theorem referenceRun_nil (r : Regs × Option Fault) : referenceRun [] r = r := rfl

/-- A run whose inputs the script fixes leaves what the reference leaves. -/
theorem iterate_afterCycle_of_script (js : List Inputs) {is : List Inputs} {s : State}
    (script : s.script = js ++ is) :
    ((afterCycle^[js.length] s).cur, (afterCycle^[js.length] s).fault)
      = referenceRun js (s.cur, s.fault) := by
  induction js generalizing s with
  | nil => rfl
  | cons j js ih =>
    have rest : (afterCycle s).script = js ++ is := by rw [afterCycle_script, script]; rfl
    rw [List.length_cons, Function.iterate_succ_apply, ih rest, referenceRun_cons, afterCycle_cur,
      afterCycle_fault, State.inputs_of_script script]

/-! ## Cycles without reset, trigger and external write -/

/-- Such a cycle is its request and then the branch of the state; the mark is kept. -/
theorem referenceCycle_of_asserts {i : Inputs} {reqExc reqRet : Bool}
    (only : Asserts i false false false reqExc reqRet false) (c : Regs) (m : Option Fault) :
    referenceCycle i c m = ((referenceEvaluate i c (referenceRequest i c)).1, m) := by
  obtain ⟨hrst, -, -, -, -, hwe⟩ := only
  simp [referenceCycle, referenceExternal, hrst, hwe]

/-- R90, R127: REQ_EXC in `Idle`. -/
theorem referenceCycle_reqExc_idle {i : Inputs} (only : OnlyReqExc i) {c : Regs} (idle : c.state = .idle)
    (m : Option Fault) :
    referenceCycle i c m
      = ((((c.record i.data.epc i.data.cause i.data.tval).goTo .setCSRJump).putRedirect false).putFlush false,
        m) := by
  rw [referenceCycle_of_asserts only]
  obtain ⟨-, hbt, hbtr, hre, -, -⟩ := only
  simp only [referenceRequest, referenceEvaluate, hbt, hbtr, hre, idle]
  rfl

/-- R93, R127: REQ_RET in `Idle`. -/
theorem referenceCycle_reqRet_idle {i : Inputs} (only : OnlyReqRet i) {c : Regs} (idle : c.state = .idle)
    (m : Option Fault) :
    referenceCycle i c m = (((c.goTo .returnFromTrap).putRedirect false).putFlush false, m) := by
  rw [referenceCycle_of_asserts only]
  obtain ⟨-, hbt, hbtr, hre, hrr, -⟩ := only
  simp only [referenceRequest, referenceEvaluate, hbt, hbtr, hre, hrr, idle]
  rfl

/-- Without inputs at all, the branch of the state runs on the current registers. -/
theorem referenceCycle_quiet {i : Inputs} (quiet : Quiet i) (c : Regs) (m : Option Fault) :
    referenceCycle i c m = ((referenceEvaluate i c c).1, m) := by
  rw [referenceCycle_of_asserts quiet]
  obtain ⟨-, -, -, hre, hrr, -⟩ := quiet
  simp [referenceRequest, hre, hrr]

/-- R130: the commit cycle of an entry. -/
theorem referenceCycle_quiet_setCSRJump {i : Inputs} (quiet : Quiet i) {c : Regs}
    (pending : c.state = .setCSRJump) (m : Option Fault) :
    referenceCycle i c m
      = ((((((((c.putLatch .mepc c.recEpc).putLatch .mcause c.recCause).putLatch .mtval c.recTval).putLatch
          .mstatus (push c.mstatus)).putTarget (vectorAddress i.data.mtvec c.recCause)).putRedirect
          true).putFlush false).goTo .idle, m) := by
  rw [referenceCycle_quiet quiet]
  obtain ⟨-, hbt, hbtr, -⟩ := quiet
  simp only [referenceEvaluate, hbt, hbtr, pending, Bool.false_eq_true, if_false, Regs.putLatch,
    Regs.putTarget, Regs.putRedirect, Regs.putFlush, Regs.goTo]

/-- R133: the commit cycle of a return. -/
theorem referenceCycle_quiet_returnFromTrap {i : Inputs} (quiet : Quiet i) {c : Regs}
    (pending : c.state = .returnFromTrap) (m : Option Fault) :
    referenceCycle i c m
      = ((((c.putTarget c.mepc).putLatch .mstatus (pop c.mstatus)).putFlush false).goTo .setPc, m) := by
  rw [referenceCycle_quiet quiet]
  obtain ⟨-, hbt, hbtr, -⟩ := quiet
  simp only [referenceEvaluate, hbt, hbtr, pending]
  rfl

/-- R135: the cycle that asserts the redirect of a return. -/
theorem referenceCycle_quiet_setPc {i : Inputs} (quiet : Quiet i) {c : Regs} (last : c.state = .setPc)
    (m : Option Fault) :
    referenceCycle i c m = (((c.putRedirect true).putFlush false).goTo .idle, m) := by
  rw [referenceCycle_quiet quiet]
  obtain ⟨-, hbt, hbtr, -⟩ := quiet
  simp only [referenceEvaluate, hbt, hbtr, last]
  rfl

/-! ## The round trip -/

/-- Settles O49: request, commit, request, commit and redirect; of the status, the pop of the push remains. -/
theorem entryThenReturnRoundTrip : Obligations.EntryThenReturnRoundTrip := by
  unfold Obligations.EntryThenReturnRoundTrip
  intro s i₀ i₁ i₂ i₃ i₄ is script entry quiet₁ ret quiet₃ quiet₄ idle
  have run := iterate_afterCycle_of_script [i₀, i₁, i₂, i₃, i₄] (is := is) script
  rw [referenceRun_cons, referenceCycle_reqExc_idle entry idle,
    referenceRun_cons, referenceCycle_quiet_setCSRJump quiet₁ rfl,
    referenceRun_cons, referenceCycle_reqRet_idle ret rfl,
    referenceRun_cons, referenceCycle_quiet_returnFromTrap quiet₃ rfl,
    referenceRun_cons, referenceCycle_quiet_setPc quiet₄ rfl, referenceRun_nil, Prod.mk.injEq] at run
  obtain ⟨cur, mark⟩ := run
  obtain ⟨roundTrip, -⟩ := pushPopCompositions s.cur.mstatus
  refine ⟨afterCycle^[5] s, runFor_eq 5 s, congrArg Regs.setPc cur, congrArg Regs.rtpm cur,
    congrArg Regs.pcToSet cur, ?_, congrArg Regs.state cur, mark⟩
  rw [← roundTrip]
  exact congrArg Regs.mstatus cur

end Sys2Proof.Machine
end

section
/-! PROOFS. Which evaluate row runs in a cycle (spec/30_encoding.md R80; spec/42_evaluate.md R120, R124): O17.
Of the operations of a cycle without reset only `evaluateOp` is of the evaluate group, and the rows of R80
hit exactly the words of the cycles that run them. -/

namespace Sys2Proof.Machine

/-- The request and the external write of a cycle are no evaluate rows, so one operation is left. -/
theorem filter_evaluate_eq (i : Inputs) (st : Ctl) :
    ((requestOps i ++ [evaluateOp i st] ++ externalOps i).filter fun op => op.group == .evaluate)
      = [evaluateOp i st] := by
  have request : ((requestOps i).filter fun op => op.group == .evaluate) = [] :=
    List.filter_eq_nil_iff.mpr fun op mem => by rw [requestOps_group i op mem]; decide
  have external : ((externalOps i).filter fun op => op.group == .evaluate) = [] :=
    List.filter_eq_nil_iff.mpr fun op mem => by rw [externalOps_group i op mem]; decide
  simp [request, external, evaluateOp_group]

/-- R120: the evaluate rows of a cycle without reset are exactly one. -/
theorem operations_filter_evaluate {s : State} (noReset : s.inputs.rst = false) :
    (s.operations.filter fun op => op.group == .evaluate) = [evaluateOp s.inputs s.cur.state] := by
  rw [operations_eq, noReset]
  exact filter_evaluate_eq ..

/-- Settles O17: the one evaluate row, with the conditions of R80 written out. -/
theorem evaluateDispatch : Obligations.EvaluateDispatch := by
  unfold Obligations.EvaluateDispatch
  intro s noReset
  rw [operations_filter_evaluate noReset]
  cases s.cur.state <;> rfl

/-- An evaluate row of a cycle without reset is the one row that runs in it. -/
theorem eq_evaluateOp_of_mem_operations {s : State} {op : Instr} (noReset : s.inputs.rst = false)
    (mem : op ∈ s.operations) (evaluate : op.group = .evaluate) :
    op = evaluateOp s.inputs s.cur.state := by
  have mem' : op ∈ s.operations.filter fun op => op.group == .evaluate :=
    List.mem_filter.mpr ⟨mem, beq_iff_eq.mpr evaluate⟩
  rwa [operations_filter_evaluate noReset, List.mem_singleton] at mem'

/-- A word selects an evaluate row exactly without reset and when the row is that of its triggers and state. -/
theorem evaluate_mem_decode (w : CycleWord) {op : Instr} (evaluate : op.group = .evaluate) :
    op ∈ decode w
      ↔ (inputsOf w).rst = false ∧ op = evaluateOp (inputsOf w) (decodeCtl (stateField w.cs)) := by
  have notReset : op ≠ .reset := by rintro rfl; cases evaluate
  have notRequest : op ∉ requestOps (inputsOf w) := fun mem => by
    rw [requestOps_group _ op mem] at evaluate; cases evaluate
  have notExternal : op ∉ externalOps (inputsOf w) := fun mem => by
    rw [externalOps_group _ op mem] at evaluate; cases evaluate
  simp [mem_decode, notReset, notRequest, notExternal]

/-- R80: a row's masked bits equal its match value exactly in the cycles whose evaluate row it is. -/
theorem evaluateMask_iff (w : CycleWord) : ∀ r ∈ evaluateRows,
    (w.cs &&& r.mask = r.pattern
      ↔ (inputsOf w).rst = false
        ∧ r.op w.data = evaluateOp (inputsOf w) (decodeCtl (stateField w.cs))) := by
  have hits := evaluateRows_hit (stateField w.cs) (inputsOf w).beginTrapReturn (inputsOf w).beginTrap
    (inputsOf w).reqRet (inputsOf w).reqExc (inputsOf w).extWe (inputsOf w).extSel (inputsOf w).rst
  rw [← selectorOf, selectorOf_inputsOf_cs] at hits
  have data : (inputsOf w).data = w.data := rfl
  simp only [evaluateRows, Row.hits, List.map_cons, List.map_nil, List.cons.injEq, and_true] at hits
  obtain ⟨trap, ret, idle, entry, restore, redirect⟩ := hits
  simp only [evaluateRows, List.forall_mem_cons, eq_evaluateOp, data, ← beq_iff_eq (a := w.cs &&& _), trap,
    ret, idle, entry, restore, redirect]
  simp [and_assoc]

/-- Every row of R80 has operations of the evaluate group. -/
theorem evaluateRows_group (d : Operands) : ∀ r ∈ evaluateRows, (r.op d).group = .evaluate := by
  simp [evaluateRows, Instr.group]

/-- Each row of R80, counted from 0, is selected exactly by its mask and match value. -/
theorem evaluateRow_mem_decode (w : CycleWord) (k : Nat) (hk : k < evaluateRows.length) :
    evaluateRows[k].op w.data ∈ decode w ↔ w.cs &&& evaluateRows[k].mask = evaluateRows[k].pattern := by
  have mem : evaluateRows[k] ∈ evaluateRows := List.getElem_mem hk
  rw [evaluate_mem_decode w (evaluateRows_group w.data _ mem), evaluateMask_iff w _ mem]

end Sys2Proof.Machine
end

section
/-! PROOFS. The cycle as a function (spec/42_evaluate.md R140 to R144): O15, O18, O19, O20. -/

namespace Sys2Proof.Machine

/-- Settles O15: the three phases and the edge are those of R140. -/
theorem stepIsTheWholeCycleFunction : Obligations.StepIsTheWholeCycleFunction := by
  unfold Obligations.StepIsTheWholeCycleFunction
  intro s
  rw [step_eq, afterCycle_eq]

/-- Settles O18: every operation answers its effect, so every cycle and every run completes. -/
theorem everyCycleCompletes : Obligations.EveryCycleCompletes := by
  unfold Obligations.EveryCycleCompletes
  exact ⟨fun op s => ⟨_, exec_eq op s⟩, fun s => ⟨_, step_eq s⟩, fun n s => ⟨_, runFor_eq n s⟩⟩

/-- Settles O19: a request survives in `Idle` without a trigger only. -/
theorem stateTransitionTable : Obligations.StateTransitionTable := by
  unfold Obligations.StateTransitionTable
  intro s noReset
  refine ⟨_, step_eq s, ?_⟩
  rw [afterCycle_state noReset]
  cases s.cur.state
  case idle => rfl
  all_goals cases s.inputs.reqExc <;> cases s.inputs.reqRet <;> rfl

/-- Settles O20: the whole-cycle function has no other argument. -/
theorem stepIsTotalAndDetermined : Obligations.StepIsTotalAndDetermined := by
  unfold Obligations.StepIsTotalAndDetermined
  intro s s' cur mark inputs
  refine ⟨_, _, step_eq s, step_eq s', ?_, ?_⟩
  · rw [afterCycle_cur, afterCycle_cur, cur, mark, inputs]
  · rw [afterCycle_fault, afterCycle_fault, cur, mark, inputs]

end Sys2Proof.Machine
end

section
/-! PROOFS. The six evaluate rows (spec/42_evaluate.md R121 to R139): O4 to O9. First what a cycle makes of
the outputs, the latches and the mark, by its row; each obligation is these facts at its row. -/

namespace Sys2Proof.Machine

/-! ## The outputs -/

/-- R127 to R135: without a trigger `flush` is deasserted, and the branch of the state gives the redirect
outputs; every branch but that of `Idle` gives the next state too, whatever is requested. -/
theorem step_outputs_of_branch {s t : State} {st : Ctl} (run : step s = .next t)
    (noReset : s.inputs.rst = false) (noTrap : s.inputs.beginTrap = false)
    (noReturn : s.inputs.beginTrapReturn = false) (current : s.cur.state = st) :
    t.cur.flush = false ∧
      match st with
      | .idle => t.cur.setPc = false ∧ t.cur.rtpm = false ∧ t.cur.pcToSet = s.cur.pcToSet
      | .setCSRJump =>
        t.cur.state = .idle ∧ t.cur.setPc = true ∧ t.cur.rtpm = true
          ∧ t.cur.pcToSet = vectorAddress s.inputs.data.mtvec s.cur.recCause
      | .returnFromTrap =>
        t.cur.state = .setPc ∧ t.cur.setPc = s.cur.setPc ∧ t.cur.rtpm = s.cur.rtpm
          ∧ t.cur.pcToSet = s.cur.mepc
      | .setPc =>
        t.cur.state = .idle ∧ t.cur.setPc = true ∧ t.cur.rtpm = true ∧ t.cur.pcToSet = s.cur.pcToSet := by
  obtain rfl := eq_afterCycle_of_step run
  simp only [afterCycle_cur, referenceCycle_flush, referenceCycle_state, referenceCycle_setPc,
    referenceCycle_rtpm, referenceCycle_pcToSet, stateAfter, redirectAfter, targetAfter, branchRuns, noReset,
    noTrap, noReturn, current]
  cases st <;> simp

/-- R121, R122: both triggers assert `flush`. -/
theorem afterCycle_flush_of_trigger {s : State} (noReset : s.inputs.rst = false)
    (trigger : s.inputs.beginTrap = true ∨ s.inputs.beginTrapReturn = true) :
    (afterCycle s).cur.flush = true := by
  rw [afterCycle_cur, referenceCycle_flush, noReset]
  exact (Bool.or_eq_true ..).mpr trigger

/-- R121, R122: with a trigger the redirect outputs hold. -/
theorem afterCycle_redirectKept_of_trigger {s : State} (noReset : s.inputs.rst = false)
    (trigger : s.inputs.beginTrap = true ∨ s.inputs.beginTrapReturn = true) :
    RedirectKept s.cur (afterCycle s).cur := by
  obtain ⟨t, run, redirect⟩ := redirectMultiplexer s noReset
  rwa [eq_afterCycle_of_step run, if_pos trigger] at redirect

/-! ## The latches and the mark -/

/-- R139: the triggers' rows and the branches of `Idle` and `SetPc` write no latch. -/
theorem rowWrites_eq_nil_iff (i : Inputs) (st : Ctl) :
    rowWrites i st = []
      ↔ (i.beginTrap = true ∨ i.beginTrapReturn = true) ∨ st = .idle ∨ st = .setPc := by
  rw [← branchRuns_eq_false_iff]
  unfold rowWrites
  cases branchRuns i
  case false => simp
  case true => cases st <;> simp

/-- A latch that neither the row nor the port writes holds. -/
theorem afterCycle_latch_kept {s : State} {l : Latch} (noReset : s.inputs.rst = false)
    (free : l ∉ rowWrites s.inputs s.cur.state) (noWrite : s.inputs.extWe = false) :
    (afterCycle s).cur.latch l = s.cur.latch l := by
  rw [afterCycle_cur, referenceCycle_latch, noReset, if_neg free]
  simp [writesLatch, noWrite]

/-- Where the row writes no latch, all four hold without an external write. -/
theorem afterCycle_latchesKept {s : State} (noReset : s.inputs.rst = false)
    (noLatch : rowWrites s.inputs s.cur.state = []) (noWrite : s.inputs.extWe = false) :
    LatchesKept s.cur (afterCycle s).cur := by
  have kept (l : Latch) : (afterCycle s).cur.latch l = s.cur.latch l :=
    afterCycle_latch_kept noReset (noLatch ▸ List.not_mem_nil) noWrite
  exact ⟨kept .mepc, kept .mcause, kept .mtval, kept .mstatus⟩

/-- Where the row writes no latch, no write conflicts with it (R99). -/
theorem afterCycle_fault_kept {s : State} (noLatch : rowWrites s.inputs s.cur.state = []) :
    (afterCycle s).fault = s.fault := by
  have noConflict : ¬ writeConflict s = true := by simp [writeConflict_iff, noLatch]
  rw [afterCycle_mark, if_neg noConflict]

/-- R130: the commit cycle of an entry gives every latch the controller's value, whatever the port does. -/
theorem afterCycle_latch_of_entry {s : State} (noReset : s.inputs.rst = false)
    (noTrap : s.inputs.beginTrap = false) (noReturn : s.inputs.beginTrapReturn = false)
    (pending : s.cur.state = .setCSRJump) (l : Latch) :
    (afterCycle s).cur.latch l = rowValue s.cur l :=
  afterCycle_latch_of_mem_rowWrites noReset ((mem_rowWrites_iff ..).mpr ⟨noTrap, noReturn, .inl pending⟩)

/-! ## The triggers -/

/-- Settles O4: the entry trigger is the first condition of the dispatch, and the commit cycle reads the
record that the trigger's edge left. -/
theorem trapTriggerForcesEntry : Obligations.TrapTriggerForcesEntry := by
  unfold Obligations.TrapTriggerForcesEntry
  refine ⟨fun _ => rfl, fun w => evaluateRow_mem_decode w 0 (by decide), ?_⟩
  intro s noReset trap
  have noLatch := (rowWrites_eq_nil_iff s.inputs s.cur.state).mpr (.inl (.inl trap))
  have state : (afterCycle s).cur.state = .setCSRJump := by
    rw [afterCycle_state noReset]
    exact if_pos trap
  refine ⟨fun op mem evaluate => ?_, _, step_eq s, state, afterCycle_flush_of_trigger noReset (.inl trap),
    afterCycle_redirectKept_of_trigger noReset (.inl trap), afterCycle_fault_kept noLatch,
    afterCycle_recordKept noReset, afterCycle_record noReset, afterCycle_latchesKept noReset noLatch, ?_⟩
  · rw [eq_evaluateOp_of_mem_operations noReset mem evaluate]
    exact if_pos trap
  · intro noReset' noTrap' noReturn'
    have frame := afterCycle_latch_of_entry noReset' noTrap' noReturn' state
    exact ⟨_, step_eq _, frame .mepc, frame .mcause, frame .mtval⟩

/-- Settles O5: the return trigger is the second condition of the dispatch. -/
theorem returnTriggerForcesReturn : Obligations.ReturnTriggerForcesReturn := by
  unfold Obligations.ReturnTriggerForcesReturn
  refine ⟨fun _ => rfl, fun w => evaluateRow_mem_decode w 1 (by decide), ?_⟩
  intro s noReset noTrap ret
  have noLatch := (rowWrites_eq_nil_iff s.inputs s.cur.state).mpr (.inl (.inr ret))
  refine ⟨fun op mem evaluate => ?_, _, step_eq s, ?_,
    afterCycle_flush_of_trigger noReset (.inr ret), afterCycle_redirectKept_of_trigger noReset (.inr ret),
    afterCycle_fault_kept noLatch, afterCycle_recordKept noReset, afterCycle_latchesKept noReset noLatch⟩
  · rw [eq_evaluateOp_of_mem_operations noReset mem evaluate]
    simp [evaluateOp, noTrap, ret]
  · rw [afterCycle_state noReset]
    simp [stateAfter, noTrap, ret]

/-! ## The branches of the state -/

/-- Settles O6: the branch of `Idle` writes the three flags and no latch, so every external write lands. -/
theorem idleDeassertsFlags : Obligations.IdleDeassertsFlags := by
  unfold Obligations.IdleDeassertsFlags
  refine ⟨fun _ => rfl, fun w => evaluateRow_mem_decode w 2 (by decide), ?_⟩
  intro s noReset noTrap noReturn idle
  have noLatch := (rowWrites_eq_nil_iff s.inputs s.cur.state).mpr (.inr (.inl idle))
  obtain ⟨flush, setPc, rtpm, target⟩ :=
    step_outputs_of_branch (step_eq s) noReset noTrap noReturn idle
  refine ⟨_, step_eq s, ⟨flush, setPc, rtpm⟩, target, afterCycle_fault_kept noLatch, ?_,
    afterCycle_latchesKept noReset noLatch, fun write => ?_⟩
  · intro noExc noRet
    rw [afterCycle_state noReset]
    simp [stateAfter, noTrap, noReturn, noExc, noRet, idle]
  · obtain ⟨-, lands⟩ := afterCycle_write_lands noReset write (noLatch ▸ List.not_mem_nil)
    exact lands

/-- Settles O7: all four latches are the controller's in this cycle, so every external write conflicts. -/
theorem setCsrJumpTakesTheTrap : Obligations.SetCsrJumpTakesTheTrap := by
  unfold Obligations.SetCsrJumpTakesTheTrap
  refine ⟨?_, fun w => evaluateRow_mem_decode w 3 (by decide), ?_⟩
  · intro s mtvec
    rw [exec_eq, effect, State.takeTrap_eq]
  intro s noReset noTrap noReturn pending
  obtain ⟨flush, state, setPc, rtpm, target⟩ :=
    step_outputs_of_branch (step_eq s) noReset noTrap noReturn pending
  have frame := afterCycle_latch_of_entry noReset noTrap noReturn pending
  have conflict : writeConflict s = s.inputs.extWe := by
    rw [Bool.eq_iff_iff, writeConflict_iff]
    simp [mem_rowWrites_iff, noReset, noTrap, noReturn, pending]
  refine ⟨_, step_eq s, frame .mepc, frame .mcause, frame .mtval, (frame .mstatus).trans (if_pos pending), target,
    setPc, rtpm, flush, state, afterCycle_recordKept noReset, ?_⟩
  rw [afterCycle_mark, conflict]

/-- Settles O8: of the latches only `mstatus` is the controller's in this cycle, and the target is the
current `mepc`. -/
theorem returnFromTrapRestoresStatus : Obligations.ReturnFromTrapRestoresStatus := by
  unfold Obligations.ReturnFromTrapRestoresStatus
  refine ⟨?_, fun w => evaluateRow_mem_decode w 4 (by decide), ?_⟩
  · intro s
    rw [exec_eq, effect, State.returnFromTrap_eq]
  intro s noReset noTrap noReturn pending
  obtain ⟨flush, state, setPc, rtpm, target⟩ :=
    step_outputs_of_branch (step_eq s) noReset noTrap noReturn pending
  have claimed (l : Latch) : l ∈ rowWrites s.inputs s.cur.state ↔ l = .mstatus := by
    simp [mem_rowWrites_iff, noTrap, noReturn, pending]
  have status : (afterCycle s).cur.mstatus = pop s.cur.mstatus :=
    (afterCycle_latch_of_mem_rowWrites noReset ((claimed .mstatus).mpr rfl)).trans
      (if_neg (by simp [pending]))
  refine ⟨_, step_eq s, target, status, flush, state, setPc, rtpm, afterCycle_recordKept noReset, ?_, ?_, ?_⟩
  · intro noWrite
    have kept {l : Latch} (other : l ≠ .mstatus) : (afterCycle s).cur.latch l = s.cur.latch l :=
      afterCycle_latch_kept noReset (mt (claimed l).mp other) noWrite
    exact ⟨kept (l := .mepc) (by decide), kept (l := .mcause) (by decide), kept (l := .mtval) (by decide),
      status⟩
  · intro write sel
    have free : selectLatch s.inputs.extSel ∉ rowWrites s.inputs s.cur.state := by simp [claimed, sel]
    obtain ⟨mark, value⟩ := afterCycle_write_lands noReset write free
    rw [sel] at value
    exact ⟨value, mark⟩
  · intro write sel
    rw [← sel]
    exact afterCycle_fault_of_conflict ((writeConflict_iff s).mpr ⟨noReset, write, (claimed _).mpr sel⟩)

/-- Settles O9: the branch of `SetPc` writes `set_pc`, `rtpm`, `flush` and `state`, and no latch. -/
theorem setPcAssertsTheHeldRedirect : Obligations.SetPcAssertsTheHeldRedirect := by
  unfold Obligations.SetPcAssertsTheHeldRedirect
  refine ⟨fun _ => rfl, fun w => evaluateRow_mem_decode w 5 (by decide), ?_⟩
  intro s noReset noTrap noReturn last
  obtain ⟨flush, state, setPc, rtpm, target⟩ :=
    step_outputs_of_branch (step_eq s) noReset noTrap noReturn last
  have noLatch := (rowWrites_eq_nil_iff s.inputs s.cur.state).mpr (.inr (.inr last))
  exact ⟨_, step_eq s, setPc, rtpm, flush, state, target, afterCycle_recordKept noReset,
    afterCycle_latchesKept noReset noLatch, afterCycle_fault_kept noLatch⟩

end Sys2Proof.Machine
end

section
/-! PROOFS. Idle cycles without inputs (spec/42_evaluate.md R128): O44. The first such cycle deasserts the
flags; with the flags at 0 a further one changes no register, and so does any number of them. -/

namespace Sys2Proof.Machine

/-- R127: a cycle of `Idle` without inputs deasserts the three flags and keeps the rest. -/
theorem afterCycle_of_quiet_idle {s : State} (quiet : Quiet s.inputs) (idle : s.cur.state = .idle) :
    (afterCycle s).cur = { s.cur with rtpm := false, setPc := false, flush := false }
      ∧ (afterCycle s).fault = s.fault := by
  rw [afterCycle_cur, afterCycle_fault, referenceCycle_quiet_idle quiet idle]
  exact ⟨rfl, rfl⟩

/-- Deasserting flags that are deasserted changes nothing. -/
theorem deassert_of_flagsDeasserted {r : Regs} (flags : FlagsDeasserted r) :
    { r with rtpm := false, setPc := false, flush := false } = r := by
  obtain ⟨flush, setPc, rtpm⟩ := flags
  exact Regs.ext_registers rfl rfl rfl rfl flush.symm setPc.symm rfl rtpm.symm rfl rfl rfl rfl

/-- The script fixes the inputs of the next `n` cycles, and none of these is asserted. -/
def QuietScript (n : Nat) (s : State) : Prop := ∀ k < n, ∃ i, s.script[k]? = some i ∧ Quiet i

theorem QuietScript.inputs {n : Nat} {s : State} (h : QuietScript (n + 1) s) : Quiet s.inputs := by
  obtain ⟨i, first, quiet⟩ := h 0 n.succ_pos
  rw [← List.head?_eq_getElem?] at first
  obtain ⟨is, script⟩ := List.head?_eq_some_iff.mp first
  rwa [State.inputs_of_script script]

/-- One cycle spends one input vector of the script. -/
theorem QuietScript.rest {n : Nat} {s : State} (h : QuietScript (n + 1) s) :
    QuietScript n (afterCycle s) := by
  intro k hk
  rw [afterCycle_script, List.getElem?_tail]
  exact h (k + 1) (Nat.succ_lt_succ hk)

/-- R128: with the flags at 0, idle cycles without inputs keep every register and the mark. -/
theorem iterate_afterCycle_of_quiet_idle (n : Nat) {s : State} (quiet : QuietScript n s)
    (idle : s.cur.state = .idle) (flags : FlagsDeasserted s.cur) :
    (afterCycle^[n] s).cur = s.cur ∧ (afterCycle^[n] s).fault = s.fault := by
  induction n generalizing s with
  | zero => exact ⟨rfl, rfl⟩
  | succ n ih =>
    obtain ⟨cur, mark⟩ := afterCycle_of_quiet_idle quiet.inputs idle
    rw [deassert_of_flagsDeasserted flags] at cur
    rw [Function.iterate_succ_apply, ← cur, ← mark]
    exact ih quiet.rest (cur ▸ idle) (cur ▸ flags)

/-- Settles O44: the first cycle deasserts the flags, and the others change nothing. -/
theorem idleIsStable : Obligations.IdleIsStable := by
  unfold Obligations.IdleIsStable
  intro n s script idle
  have quiet : QuietScript (n + 1) s := script
  obtain ⟨cur, mark⟩ := afterCycle_of_quiet_idle quiet.inputs idle
  have state : (afterCycle s).cur.state = .idle := by rw [cur, idle]
  have flags : FlagsDeasserted (afterCycle s).cur := by rw [cur]; exact ⟨rfl, rfl, rfl⟩
  obtain ⟨restCur, restMark⟩ := iterate_afterCycle_of_quiet_idle n quiet.rest state flags
  refine ⟨_, _, step_eq s, runFor_eq (n + 1) s, state, flags, ?_, ?_, ?_, restCur, restMark.trans mark⟩
  all_goals rw [cur]
  · exact ⟨rfl, rfl, rfl, rfl⟩
  · exact ⟨rfl, rfl, rfl⟩

end Sys2Proof.Machine
end

section
/-! PROOFS. The privilege and trap rules (spec/60_exceptions.md R148, R157): O29, O59. A relation between
registers that the whole-cycle function keeps, with the mark, holds between the ends of two runs in one
environment; MIE gates nothing because equality but for `mstatus` is such a relation. -/

namespace Sys2Proof.Machine

/-! ## Two runs in one environment -/

/-- Two states whose registers are related, with one mark and one environment (log entry 2). -/
def RelatedIn (R : Regs → Regs → Prop) (s s' : State) : Prop :=
  R s.cur s'.cur ∧ s'.fault = s.fault ∧ s'.script = s.script ∧ s'.tick = s.tick

/-- The whole-cycle function of R140 keeps the relation of the registers and makes one mark of both. -/
def CycleKeeps (R : Regs → Regs → Prop) : Prop :=
  ∀ (i : Inputs) (c c' : Regs) (m : Option Fault), R c c' →
    R (referenceCycle i c m).1 (referenceCycle i c' m).1
      ∧ (referenceCycle i c' m).2 = (referenceCycle i c m).2

/-- A cycle moves the environment alike on both sides, so the relation of the registers is all it takes. -/
theorem afterCycle_relatedIn {R : Regs → Regs → Prop} (keeps : CycleKeeps R) (s s' : State)
    (h : RelatedIn R s s') : RelatedIn R (afterCycle s) (afterCycle s') := by
  obtain ⟨cur, mark, script, tick⟩ := h
  obtain ⟨cur', mark'⟩ := keeps s.inputs s.cur s'.cur s.fault cur
  refine ⟨?_, ?_, ?_, ?_⟩
  · rwa [afterCycle_cur, afterCycle_cur, State.inputs_congr script tick, mark]
  · rwa [afterCycle_fault, afterCycle_fault, State.inputs_congr script tick, mark]
  · rw [afterCycle_script, afterCycle_script, script]
  · rw [afterCycle_tick, afterCycle_tick, tick]

/-! ## `mstatus` gates nothing -/

/-- Equal registers but for `mstatus`. -/
def EqualButStatus (c c' : Regs) : Prop := { c' with mstatus := c.mstatus } = c

/-- R46, R148: of a cycle's equations only that of `mstatus` itself reads `mstatus`. -/
theorem cycleKeeps_equalButStatus : CycleKeeps EqualButStatus := by
  intro i c c' m h
  obtain ⟨status, rfl⟩ : ∃ status, c = { c' with mstatus := status } := ⟨c.mstatus, h.symm⟩
  refine ⟨Regs.ext_registers ?_ ?_ ?_ ?_ ?_ ?_ ?_ ?_ ?_ ?_ ?_ rfl, ?_⟩
  all_goals
    simp only [referenceCycle_state, referenceCycle_recEpc, referenceCycle_recCause, referenceCycle_recTval,
      referenceCycle_flush, referenceCycle_setPc, referenceCycle_pcToSet, referenceCycle_rtpm,
      referenceCycle_mepc, referenceCycle_mcause, referenceCycle_mtval, referenceCycle_mark, targetAfter]

/-- Settles O29, by induction on the number of cycles over the equality but for `mstatus`. -/
theorem statusGatesNothing : Obligations.StatusGatesNothing := by
  unfold Obligations.StatusGatesNothing
  intro n s m
  have start : RelatedIn EqualButStatus s { s with cur := { s.cur with mstatus := m } } :=
    ⟨rfl, rfl, rfl, rfl⟩
  obtain ⟨cur, mark, -, -⟩ :=
    iterate_afterCycle_related (afterCycle_relatedIn cycleKeeps_equalButStatus) n start
  exact ⟨_, _, runFor_eq n s, runFor_eq n _, cur, mark⟩

/-! ## A second entry before a return -/

/-- R157: a second push finds MIE at 0, saves that 0 and so clears both flags. -/
theorem flags_push_push (m : Word) : mie (push (push m)) = false ∧ mpie (push (push m)) = false := by
  obtain ⟨-, -, -, cleared, -⟩ := pushSavesInterruptEnable m
  obtain ⟨-, -, saved, clearedAgain, -⟩ := pushSavesInterruptEnable (push m)
  exact ⟨clearedAgain, saved.trans cleared⟩

/-- Settles O59: request and commit, twice; the second commit overwrites the frame and pushes a pushed status. -/
theorem nestedEntryLosesTheFirst : Obligations.NestedEntryLosesTheFirst := by
  unfold Obligations.NestedEntryLosesTheFirst
  intro s i₀ i₁ i₂ i₃ is script first quiet₁ second quiet₃ idle
  have run := iterate_afterCycle_of_script [i₀, i₁, i₂, i₃] (is := is) script
  rw [referenceRun_cons, referenceCycle_reqExc_idle first idle,
    referenceRun_cons, referenceCycle_quiet_setCSRJump quiet₁ rfl,
    referenceRun_cons, referenceCycle_reqExc_idle second rfl,
    referenceRun_cons, referenceCycle_quiet_setCSRJump quiet₃ rfl, referenceRun_nil, Prod.mk.injEq] at run
  obtain ⟨cur, -⟩ := run
  have status : (afterCycle^[4] s).cur.mstatus = push (push s.cur.mstatus) := congrArg Regs.mstatus cur
  refine ⟨afterCycle^[4] s, runFor_eq 4 s, congrArg Regs.mepc cur, congrArg Regs.mcause cur,
    congrArg Regs.mtval cur, ?_⟩
  rw [status]
  exact flags_push_push s.cur.mstatus

end Sys2Proof.Machine
end

section
/-! PROOFS. A trigger held for any number of cycles (spec/70_reset_and_hazards.md R182): O50. A transitive
relation that each cycle of a run establishes holds between the ends of the run; what a trigger's cycle
forces, and what it leaves unchanged, are such relations. -/

namespace Sys2Proof.Machine

/-! ## Runs of one kind of cycle -/

/-- The script fixes the inputs of the next `n` cycles, and all of them are of one kind. -/
def ScriptOf (P : Inputs → Prop) (n : Nat) (s : State) : Prop := ∀ k < n, ∃ i, s.script[k]? = some i ∧ P i

theorem ScriptOf.inputs {P : Inputs → Prop} {n : Nat} {s : State} (h : ScriptOf P (n + 1) s) :
    P s.inputs := by
  obtain ⟨i, first, kind⟩ := h 0 n.succ_pos
  rw [← List.head?_eq_getElem?] at first
  obtain ⟨is, script⟩ := List.head?_eq_some_iff.mp first
  rwa [State.inputs_of_script script]

/-- One cycle spends one input vector of the script. -/
theorem ScriptOf.rest {P : Inputs → Prop} {n : Nat} {s : State} (h : ScriptOf P (n + 1) s) :
    ScriptOf P n (afterCycle s) := by
  intro k hk
  rw [afterCycle_script, List.getElem?_tail]
  exact h (k + 1) (Nat.succ_lt_succ hk)

theorem ScriptOf.and {P Q : Inputs → Prop} {n : Nat} {s : State} (hP : ScriptOf P n s)
    (hQ : ScriptOf Q n s) : ScriptOf (fun i => P i ∧ Q i) n s := by
  intro k hk
  obtain ⟨i, script, p⟩ := hP k hk
  obtain ⟨j, script', q⟩ := hQ k hk
  obtain rfl := Option.some.inj (script.symm.trans script')
  exact ⟨i, script, p, q⟩

theorem ScriptOf.mono {P Q : Inputs → Prop} (weaker : ∀ i, P i → Q i) {n : Nat} {s : State}
    (h : ScriptOf P n s) : ScriptOf Q n s := fun k hk =>
  (h k hk).imp fun i ⟨script, p⟩ => ⟨script, weaker i p⟩

/-- A transitive relation that every cycle of a kind establishes relates the ends of a run of such cycles. -/
theorem iterate_afterCycle_of_scriptOf {R : State → State → Prop} {P : Inputs → Prop}
    (trans : ∀ {a b c}, R a b → R b c → R a c) (cycle : ∀ s, P s.inputs → R s (afterCycle s)) (n : Nat)
    {s : State} (script : ScriptOf P (n + 1) s) : R s (afterCycle^[n + 1] s) := by
  induction n generalizing s with
  | zero => exact cycle s script.inputs
  | succ n ih => exact trans (cycle s script.inputs) (ih script.rest)

/-! ## The cycle of a trigger -/

/-- The inputs carry a trigger, without reset, that takes every state to `st`. -/
def Forces (st : Ctl) (i : Inputs) : Prop :=
  i.rst = false ∧ (i.beginTrap = true ∨ i.beginTrapReturn = true)
    ∧ ∀ current requested, stateAfter i current requested = st

/-- R121, R123: the entry trigger, with either value of the return trigger. -/
theorem forces_of_beginTrap (i : Inputs) (h : i.rst = false ∧ i.beginTrap = true) :
    Forces .setCSRJump i := by
  obtain ⟨noReset, trap⟩ := h
  exact ⟨noReset, .inl trap, fun _ _ => if_pos trap⟩

/-- R122: the return trigger alone. -/
theorem forces_of_beginTrapReturn (i : Inputs)
    (h : i.rst = false ∧ i.beginTrap = false ∧ i.beginTrapReturn = true) :
    Forces .returnFromTrap i := by
  obtain ⟨noReset, noTrap, ret⟩ := h
  exact ⟨noReset, .inr ret, fun _ _ => by simp [stateAfter, noTrap, ret]⟩

/-- What a held trigger makes of a state: it is in `st` with `flush`, and no redirect and no mark came. -/
def HeldIn (st : Ctl) (s t : State) : Prop :=
  t.cur.state = st ∧ t.cur.flush = true ∧ RedirectKept s.cur t.cur ∧ t.fault = s.fault

theorem HeldIn.trans {st : Ctl} {a b c : State} (first : HeldIn st a b) (second : HeldIn st b c) :
    HeldIn st a c := by
  obtain ⟨-, -, ⟨setPc, rtpm, target⟩, mark⟩ := first
  obtain ⟨state, flush, ⟨setPc', rtpm', target'⟩, mark'⟩ := second
  exact ⟨state, flush, ⟨setPc'.trans setPc, rtpm'.trans rtpm, target'.trans target⟩, mark'.trans mark⟩

theorem latchesKept_trans {a b c : Regs} (first : LatchesKept a b) (second : LatchesKept b c) :
    LatchesKept a c := by
  obtain ⟨mepc, mcause, mtval, mstatus⟩ := first
  obtain ⟨mepc', mcause', mtval', mstatus'⟩ := second
  exact ⟨mepc'.trans mepc, mcause'.trans mcause, mtval'.trans mtval, mstatus'.trans mstatus⟩

/-- R125: a trigger's cycle runs no state branch. -/
theorem rowWrites_of_forces {st : Ctl} {i : Inputs} (forces : Forces st i) (current : Ctl) :
    rowWrites i current = [] := by
  obtain ⟨-, trigger, -⟩ := forces
  exact (rowWrites_eq_nil_iff i current).mpr (.inl trigger)

theorem heldIn_afterCycle {st : Ctl} {s : State} (forces : Forces st s.inputs) :
    HeldIn st s (afterCycle s) := by
  have noLatch := rowWrites_of_forces forces s.cur.state
  obtain ⟨noReset, trigger, state⟩ := forces
  exact ⟨(afterCycle_state noReset).trans (state _ _), afterCycle_flush_of_trigger noReset trigger,
    afterCycle_redirectKept_of_trigger noReset trigger, afterCycle_fault_kept noLatch⟩

/-- R182, for either trigger: a run whose every cycle carries it. -/
theorem runFor_of_heldTrigger {st : Ctl} {P : Inputs → Prop} (forces : ∀ i, P i → Forces st i) (n : Nat)
    (s : State) (script : ScriptOf P (n + 1) s) :
    ∃ t, runFor (n + 1) s = .next t
      ∧ t.cur.state = st ∧ t.cur.flush = true ∧ RedirectKept s.cur t.cur ∧ t.fault = s.fault
      ∧ (ScriptOf (fun i => i.extWe = false) (n + 1) s → LatchesKept s.cur t.cur) := by
  have held := script.mono forces
  obtain ⟨state, flush, redirect, mark⟩ :=
    iterate_afterCycle_of_scriptOf (R := HeldIn st) HeldIn.trans (fun _ => heldIn_afterCycle) n held
  refine ⟨_, runFor_eq (n + 1) s, state, flush, redirect, mark, fun noWrites => ?_⟩
  refine iterate_afterCycle_of_scriptOf (R := fun a b => LatchesKept a.cur b.cur) latchesKept_trans ?_ n
    (held.and noWrites)
  rintro a ⟨trigger, noWrite⟩
  have noLatch := rowWrites_of_forces trigger a.cur.state
  obtain ⟨noReset, -, -⟩ := trigger
  exact afterCycle_latchesKept noReset noLatch noWrite

/-- Settles O50: both triggers force their state from every state. -/
theorem heldTriggerCommitsNothing : Obligations.HeldTriggerCommitsNothing := by
  unfold Obligations.HeldTriggerCommitsNothing
  exact ⟨runFor_of_heldTrigger forces_of_beginTrap, runFor_of_heldTrigger forces_of_beginTrapReturn⟩

end Sys2Proof.Machine
end

section
/-! PROOFS. Reset (spec/70_reset_and_hazards.md R170) and which requests are performed (R177, R178): O13,
O51. -/

namespace Sys2Proof.Machine

/-! ## Reset -/

/-- R82: the mask of RESET, for every word, as a condition on the inputs it stands for. -/
theorem resetMask_iff (w : CycleWord) : w.cs &&& 0x200#10 = 0x200#10 ↔ (inputsOf w).rst = true := by
  have hits := resetRows_hit (stateField w.cs) (inputsOf w).beginTrapReturn (inputsOf w).beginTrap
    (inputsOf w).reqRet (inputsOf w).reqExc (inputsOf w).extWe (inputsOf w).extSel (inputsOf w).rst
  rw [← selectorOf, selectorOf_inputsOf_cs] at hits
  simp only [resetRows, Row.hits, List.map_cons, List.map_nil, List.cons.injEq, and_true] at hits
  rw [← beq_iff_eq, hits]

/-- RESET runs exactly in the cycles with `rst_i`. -/
theorem reset_mem_decode (w : CycleWord) : .reset ∈ decode w ↔ (inputsOf w).rst = true := by
  simp [mem_decode, mem_requestOps, eq_evaluateOp, mem_externalOps]

/-- R170: a reset cycle leaves the reset values and the mark it found. -/
theorem afterCycle_of_rst {s : State} (reset : s.inputs.rst = true) :
    (afterCycle s).cur = Regs.reset ∧ (afterCycle s).fault = s.fault := by
  rw [afterCycle_cur, afterCycle_fault, referenceCycle_of_rst reset]
  exact ⟨rfl, rfl⟩

/-- Settles O13: RESET runs alone, and what it leaves does not depend on what it found but for the mark. -/
theorem resetFromAnyState : Obligations.ResetFromAnyState := by
  unfold Obligations.ResetFromAnyState
  refine ⟨fun _ => rfl, fun w mask => ?_, fun w => (reset_mem_decode w).trans (resetMask_iff w).symm, ?_⟩
  · rw [decode_word, if_pos ((resetMask_iff w).mp mask)]
  · intro s reset
    obtain ⟨cur, mark⟩ := afterCycle_of_rst reset
    refine ⟨_, step_eq s, cur, mark, fun again => ?_⟩
    obtain ⟨cur', mark'⟩ := afterCycle_of_rst again
    exact ⟨_, step_eq _, cur'.trans cur.symm, mark'⟩

/-! ## Which requests are performed -/

/-- R177, R178: a REQ_EXC is accepted with the entry trigger, or in `Idle` without the return trigger. -/
theorem requestAccepted_reqExc_iff {s : State} (reqExc : s.inputs.reqExc = true) :
    requestAccepted s = true ↔ s.inputs.beginTrap = true
      ∨ (s.inputs.beginTrapReturn = false ∧ s.cur.state = .idle) := by
  simp [requestAccepted, reqExc]

/-- R177, R178: a REQ_RET is accepted without the entry trigger, in `Idle` or with the return trigger. -/
theorem requestAccepted_reqRet_iff {s : State} (noExc : s.inputs.reqExc = false)
    (reqRet : s.inputs.reqRet = true) :
    requestAccepted s = true ↔ s.inputs.beginTrap = false
      ∧ (s.inputs.beginTrapReturn = true ∨ s.cur.state = .idle) := by
  simp [requestAccepted, noExc, reqRet]

/-- Settles O51: the acceptance of R177 and R178 is the survival of R91 and R94. -/
theorem requestPerformedIffAccepted : Obligations.RequestPerformedIffAccepted := by
  unfold Obligations.RequestPerformedIffAccepted
  constructor
  · intro s noReset reqExc
    refine ⟨_, step_eq s, ?_, afterCycle_record noReset reqExc⟩
    rw [requestAccepted_reqExc_iff reqExc, afterCycle_state noReset, if_pos reqExc]
    exact stateAfter_eq_setCSRJump_iff ..
  · intro s noReset noExc reqRet
    refine ⟨_, step_eq s, ?_⟩
    rw [requestAccepted_reqRet_iff noExc reqRet, afterCycle_state noReset, noExc, if_pos reqRet]
    exact stateAfter_eq_returnFromTrap_iff ..

end Sys2Proof.Machine
end

section
/-! PROOFS. Entries and returns cycle by cycle (spec/70_reset_and_hazards.md R179 to R189): O45 to O48, O52
to O56, O58. A state's registers, mark and coming inputs fix the next state's; each obligation follows
them through its cycles by the equation of the whole-cycle function for each kind of cycle. -/

namespace Sys2Proof.Machine

/-! ## Scripted steps -/

/-- All of a state that the cycles of its script depend on, in one place. -/
structure State.Holds (s : State) (c : Regs) (m : Option Fault) (is : List Inputs) : Prop where
  cur : s.cur = c
  mark : s.fault = m
  script : s.script = is

theorem State.Holds.of_script {s : State} {is : List Inputs} (script : s.script = is) :
    s.Holds s.cur s.fault is := ⟨rfl, rfl, script⟩

/-- One cycle spends the first input vector and leaves what the whole-cycle function says. -/
theorem State.Holds.step {s : State} {c c' : Regs} {m m' : Option Fault} {i : Inputs} {is : List Inputs}
    (h : s.Holds c m (i :: is)) (cycle : referenceCycle i c m = (c', m')) :
    ∃ t, step s = .next t ∧ t.Holds c' m' is := by
  obtain ⟨rfl, rfl, script⟩ := h
  refine ⟨_, step_eq s, ?_, ?_, ?_⟩
  · rw [afterCycle_cur, State.inputs_of_script script, cycle]
  · rw [afterCycle_fault, State.inputs_of_script script, cycle]
  · rw [afterCycle_script, script, List.tail_cons]

/-! ## Cycles with a trigger and without an external write -/

/-- R121, R122: the request, then the trigger's row. -/
theorem referenceCycle_of_trigger {i : Inputs} {bt btr re rr : Bool} (only : Asserts i false bt btr re rr false)
    (trigger : (bt || btr) = true) (c : Regs) (m : Option Fault) :
    referenceCycle i c m
      = (((referenceRequest i c).putFlush true).goTo (if bt then .setCSRJump else .returnFromTrap), m) := by
  obtain ⟨hrst, rfl, rfl, -, -, hwe⟩ := only
  have cycle : referenceCycle i c m = ((referenceEvaluate i c (referenceRequest i c)).1, m) := by
    simp [referenceCycle, referenceExternal, hrst, hwe]
  rw [cycle, referenceEvaluate]
  cases hb : i.beginTrap
  case true => rfl
  case false =>
    rw [hb, Bool.false_or] at trigger
    rw [trigger]
    rfl

/-- R121, R122, R95: a trigger without a request writes `flush` and `state` only. -/
theorem referenceCycle_trigger_alone {i : Inputs} {bt btr : Bool} (only : Asserts i false bt btr false false false)
    (trigger : (bt || btr) = true) (c : Regs) (m : Option Fault) :
    referenceCycle i c m
      = ((c.putFlush true).goTo (if bt then .setCSRJump else .returnFromTrap), m) := by
  rw [referenceCycle_of_trigger only trigger]
  obtain ⟨-, -, -, noExc, noRet, -⟩ := only
  simp [referenceRequest, noExc, noRet]

/-- R90, R121: the entry trigger with its record. -/
theorem referenceCycle_reqExc_trap {i : Inputs} (only : ReqExcWithTrap i) (c : Regs) (m : Option Fault) :
    referenceCycle i c m
      = (((c.record i.data.epc i.data.cause i.data.tval).putFlush true).goTo .setCSRJump, m) := by
  rw [referenceCycle_of_trigger only rfl]
  obtain ⟨-, -, -, reqExc, -, -⟩ := only
  rw [referenceRequest, if_pos reqExc]
  rfl

/-! ## The cycle counts of entries and returns -/

/-- Settles O45: request, commit, and a cycle of `Idle` that deasserts the flags. -/
theorem requestEntryTakesTwoEdges : Obligations.RequestEntryTakesTwoEdges := by
  unfold Obligations.RequestEntryTakesTwoEdges
  intro s i j k is script entry quiet quiet' idle
  obtain ⟨t, first, ht⟩ := (State.Holds.of_script script).step (referenceCycle_reqExc_idle entry idle _)
  obtain ⟨u, second, hu⟩ := ht.step (referenceCycle_quiet_setCSRJump quiet rfl _)
  obtain ⟨v, third, hv⟩ := hu.step (referenceCycle_quiet_idle quiet' rfl _)
  obtain ⟨-, -, saved, cleared, -⟩ := pushSavesInterruptEnable s.cur.mstatus
  refine ⟨t, u, v, first, second, third, ?_⟩
  rw [ht.cur, hu.cur, hv.cur]
  exact ⟨⟨rfl, rfl, rfl⟩, rfl, rfl, rfl, rfl, rfl, rfl, rfl, saved, cleared, ⟨rfl, rfl, rfl⟩, rfl⟩

/-- Settles O46: the trigger with its record, then the commit. -/
theorem triggerEntryFlushesThenRedirects : Obligations.TriggerEntryFlushesThenRedirects := by
  unfold Obligations.TriggerEntryFlushesThenRedirects
  intro s i j is script entry quiet
  obtain ⟨t, first, ht⟩ := (State.Holds.of_script script).step (referenceCycle_reqExc_trap entry _ _)
  obtain ⟨u, second, hu⟩ := ht.step (referenceCycle_quiet_setCSRJump quiet rfl _)
  refine ⟨t, u, first, second, ?_⟩
  rw [ht.cur, hu.cur]
  exact ⟨rfl, ⟨rfl, rfl, rfl⟩, rfl, rfl, rfl, rfl, rfl, rfl, rfl, rfl⟩

/-- Settles O47: request, restore, and only then the redirect (R136). -/
theorem requestReturnTakesThreeEdges : Obligations.RequestReturnTakesThreeEdges := by
  unfold Obligations.RequestReturnTakesThreeEdges
  intro s i j k is script ret quiet quiet' idle
  obtain ⟨t, first, ht⟩ := (State.Holds.of_script script).step (referenceCycle_reqRet_idle ret idle _)
  obtain ⟨u, second, hu⟩ := ht.step (referenceCycle_quiet_returnFromTrap quiet rfl _)
  obtain ⟨v, third, hv⟩ := hu.step (referenceCycle_quiet_setPc quiet' rfl _)
  obtain ⟨-, -, restored, cleared, -⟩ := popRestoresInterruptEnable s.cur.mstatus
  refine ⟨t, u, v, first, second, third, ?_⟩
  rw [ht.cur, hu.cur, hv.cur]
  exact ⟨⟨rfl, rfl, rfl⟩, ⟨rfl, rfl, rfl⟩, rfl, restored, cleared, rfl, rfl, rfl, rfl, rfl, rfl⟩

/-- Settles O48: the trigger, restore, redirect. -/
theorem triggerReturnFlushesThenRedirects : Obligations.TriggerReturnFlushesThenRedirects := by
  unfold Obligations.TriggerReturnFlushesThenRedirects
  intro s i j k is script ret quiet quiet'
  obtain ⟨t, first, ht⟩ := (State.Holds.of_script script).step (referenceCycle_trigger_alone ret rfl _ _)
  obtain ⟨u, second, hu⟩ := ht.step (referenceCycle_quiet_returnFromTrap quiet rfl _)
  obtain ⟨v, third, hv⟩ := hu.step (referenceCycle_quiet_setPc quiet' rfl _)
  refine ⟨t, u, v, first, second, third, ?_⟩
  rw [ht.cur, hu.cur, hv.cur]
  exact ⟨rfl, rfl, rfl, rfl, rfl, rfl, rfl, rfl⟩

/-- Settles O58: entry, then a return by the trigger; no cycle after the commit deasserts `set_pc`. -/
theorem redirectHeldOverFourEdges : Obligations.RedirectHeldOverFourEdges := by
  unfold Obligations.RedirectHeldOverFourEdges
  intro s i₀ i₁ i₂ i₃ i₄ is script entry quiet₁ ret quiet₃ quiet₄ idle
  obtain ⟨t₀, step₀, h₀⟩ := (State.Holds.of_script script).step (referenceCycle_reqExc_idle entry idle _)
  obtain ⟨t₁, step₁, h₁⟩ := h₀.step (referenceCycle_quiet_setCSRJump quiet₁ rfl _)
  obtain ⟨t₂, step₂, h₂⟩ := h₁.step (referenceCycle_trigger_alone ret rfl _ _)
  obtain ⟨t₃, step₃, h₃⟩ := h₂.step (referenceCycle_quiet_returnFromTrap quiet₃ rfl _)
  obtain ⟨t₄, step₄, h₄⟩ := h₃.step (referenceCycle_quiet_setPc quiet₄ rfl _)
  refine ⟨t₀, t₁, t₂, t₃, t₄, step₀, step₁, step₂, step₃, step₄, ?_⟩
  rw [h₀.cur, h₁.cur, h₂.cur, h₃.cur, h₄.cur]
  exact ⟨rfl, rfl, rfl, rfl, rfl, rfl, rfl, rfl, rfl, rfl⟩

/-! ## Hazards -/

/-- Settles O52: the trigger's cycle writes no latch; the state it forces decides the next cycle's branch. -/
theorem triggerCancelsPendingEntry : Obligations.TriggerCancelsPendingEntry := by
  unfold Obligations.TriggerCancelsPendingEntry
  intro s i j is script _ quiet
  have start := State.Holds.of_script script
  constructor
  · intro trap
    obtain ⟨t, first, ht⟩ := start.step (referenceCycle_trigger_alone trap rfl _ _)
    obtain ⟨u, second, hu⟩ := ht.step (referenceCycle_quiet_setCSRJump quiet rfl _)
    refine ⟨t, u, first, second, ?_⟩
    rw [ht.cur, hu.cur]
    exact ⟨⟨rfl, rfl, rfl, rfl⟩, ⟨rfl, rfl, rfl⟩, rfl, rfl, rfl, rfl, rfl⟩
  · intro ret
    obtain ⟨t, first, ht⟩ := start.step (referenceCycle_trigger_alone ret rfl _ _)
    obtain ⟨u, second, hu⟩ := ht.step (referenceCycle_quiet_returnFromTrap quiet rfl _)
    refine ⟨t, u, first, second, ?_⟩
    rw [ht.cur, hu.cur]
    exact ⟨⟨rfl, rfl, rfl, rfl⟩, ⟨rfl, rfl, rfl⟩, rfl, rfl, rfl, rfl, rfl⟩

/-- R174: exception 0 has the first slot of the exceptions' region. -/
theorem vectorAddress_zero (mtvec : Word) : vectorAddress mtvec 0#32 = vectorBase mtvec + 0x30#32 :=
  BitVec.add_zero _

/-- Settles O53: the trigger leaves the record, and the commit reads it. -/
theorem staleRecordIsConsumedAgain : Obligations.StaleRecordIsConsumedAgain := by
  unfold Obligations.StaleRecordIsConsumedAgain
  intro s i j is script trap quiet
  obtain ⟨t, first, ht⟩ := (State.Holds.of_script script).step (referenceCycle_trigger_alone trap rfl _ _)
  obtain ⟨u, second, hu⟩ := ht.step (referenceCycle_quiet_setCSRJump quiet rfl _)
  refine ⟨t, u, first, second, ?_⟩
  rw [hu.cur]
  exact ⟨rfl, rfl, rfl, rfl, rfl, fun zero => (congrArg _ zero).trans (vectorAddress_zero _)⟩

/-- Settles O54: the commit reads the record of before its edge, and its `state` write comes after the
request's. -/
theorem lateRecordMissesTheEntry : Obligations.LateRecordMissesTheEntry := by
  unfold Obligations.LateRecordMissesTheEntry
  intro s i j is script trap late
  obtain ⟨t, first, ht⟩ := (State.Holds.of_script script).step (referenceCycle_trigger_alone trap rfl _ _)
  obtain rfl := State.inputs_of_script ht.script
  obtain ⟨noReset, noTrap, noReturn, reqExc, -, -⟩ := late
  obtain ⟨-, -, commit⟩ := setCsrJumpTakesTheTrap
  obtain ⟨u, second, mepc, mcause, mtval, -, target, -, -, -, state, -⟩ :=
    commit t noReset noTrap noReturn (by rw [ht.cur]; rfl)
  have record := afterCycle_record noReset reqExc
  rw [← eq_afterCycle_of_step second] at record
  rw [ht.cur] at mepc mcause mtval target
  exact ⟨t, u, first, second, mepc, mcause, mtval, target, state, record⟩

/-- A return request's cycle is one without inputs but for the request. -/
theorem quiet_of_onlyReqRet {i : Inputs} (only : OnlyReqRet i) : Quiet { i with reqRet := false } := by
  obtain ⟨hrst, hbt, hbtr, hre, -, hwe⟩ := only
  exact ⟨hrst, hbt, hbtr, hre, rfl, hwe⟩

/-- R177: a REQ_RET in the commit cycle of an entry is lost, so the cycle is one without inputs. -/
theorem referenceCycle_reqRet_setCSRJump {i : Inputs} (only : OnlyReqRet i) {c : Regs}
    (pending : c.state = .setCSRJump) (m : Option Fault) :
    referenceCycle i c m = referenceCycle { i with reqRet := false } c m := by
  rw [referenceCycle_quiet (quiet_of_onlyReqRet only), referenceCycle_of_asserts only]
  obtain ⟨-, hbt, hbtr, hre, hrr, -⟩ := only
  simp only [referenceRequest, referenceEvaluate, hbt, hbtr, hre, hrr, pending]
  rfl

/-- Settles O55: the commit's cycle ends in `Idle` whatever is requested in it, and from there a request
survives. -/
theorem earliestReturnAfterEntry : Obligations.EarliestReturnAfterEntry := by
  unfold Obligations.EarliestReturnAfterEntry
  intro s i j k is script entry idle
  obtain ⟨t, first, ht⟩ := (State.Holds.of_script script).step (referenceCycle_reqExc_idle entry idle _)
  constructor
  · intro early quiet
    obtain ⟨u, second, hu⟩ := ht.step ((referenceCycle_reqRet_setCSRJump early rfl _).trans
      (referenceCycle_quiet_setCSRJump (quiet_of_onlyReqRet early) rfl _))
    obtain ⟨v, third, hv⟩ := hu.step (referenceCycle_quiet_idle quiet rfl _)
    refine ⟨t, u, v, first, second, third, ?_⟩
    rw [hu.cur, hv.cur]
    exact ⟨rfl, rfl, rfl⟩
  · intro quiet ret
    obtain ⟨u, second, hu⟩ := ht.step (referenceCycle_quiet_setCSRJump quiet rfl _)
    obtain ⟨v, third, hv⟩ := hu.step (referenceCycle_reqRet_idle ret rfl _)
    exact ⟨t, u, v, first, second, third, by rw [hv.cur]; rfl⟩

/-- Settles O56: the write of the request's cycle lands before the target is read, the other one after. -/
theorem returnTargetWriteWindow : Obligations.ReturnTargetWriteWindow := by
  unfold Obligations.ReturnTargetWriteWindow
  intro s i j is script idle ret sel late sel'
  obtain rfl := State.inputs_of_script script
  obtain rfl : (afterCycle s).inputs = j :=
    State.inputs_of_script (is := is) (by rw [afterCycle_script, script, List.tail_cons])
  obtain ⟨noReset, noTrap, noReturn, noExc, reqRet, write⟩ := ret
  obtain ⟨noReset', noTrap', noReturn', -, -, write'⟩ := late
  have state : (afterCycle s).cur.state = .returnFromTrap := by
    rw [afterCycle_state noReset, noExc, if_pos reqRet]
    exact (stateAfter_eq_returnFromTrap_iff ..).mpr ⟨noTrap, .inr idle⟩
  have free : selectLatch s.inputs.extSel ∉ rowWrites s.inputs s.cur.state := by
    simp [mem_rowWrites_iff, idle]
  obtain ⟨mark, value⟩ := afterCycle_write_lands noReset write free
  rw [sel] at value
  obtain ⟨-, -, restore⟩ := returnFromTrapRestoresStatus
  obtain ⟨u, second, target, -, -, -, -, -, -, -, lands, -⟩ :=
    restore (afterCycle s) noReset' noTrap' noReturn' state
  obtain ⟨value', mark'⟩ := lands write' sel'
  exact ⟨_, u, step_eq s, second, value, target.trans value, value', mark'.trans mark⟩

end Sys2Proof.Machine
end
